-- ==== Sys2Proof/Word.lean ====
section
/-! DEFINITION. The two word types of the hardware (spec/00_scope.md section 4: 8-bit registers and memory
cells, a 16-bit program counter). -/

namespace Sys2Proof

/-- One memory cell, one opcode or operand byte, one 8-bit register (00_scope.md section 4). -/
abbrev Byte := BitVec 8

/-- The program counter's type: a 16-bit unsigned address (10_state.md R14). -/
abbrev Addr := BitVec 16

end Sys2Proof
end

