-- ==== Sys2Proof/Syntax.lean ====
section
/-! DEFINITION. The instructions: one constructor per row of spec/opcode_table.json (spec/30_encoding.md R76
names the row with opcode byte `0xhh` `OP_hh`). -/

namespace Sys2Proof

/-- What the block distinguishes: the 256 values of an opcode byte (30_encoding.md R72, R76). A constructor has no
argument because the opcode has no field beside `h` and `l` (R51: "the operand bytes are separate bytes, not fields
of the opcode") and the block never looks at an operand byte (20_memory.md R31, log entry 6). An instruction with its
operand bytes, as R50 lays it out in memory, is `Insn` (WellFormed.lean). -/
inductive Instr where
  | op00 | op01 | op02 | op03 | op04 | op05 | op06 | op07 | op08 | op09 | op0A | op0B | op0C | op0D | op0E | op0F
  | op10 | op11 | op12 | op13 | op14 | op15 | op16 | op17 | op18 | op19 | op1A | op1B | op1C | op1D | op1E | op1F
  | op20 | op21 | op22 | op23 | op24 | op25 | op26 | op27 | op28 | op29 | op2A | op2B | op2C | op2D | op2E | op2F
  | op30 | op31 | op32 | op33 | op34 | op35 | op36 | op37 | op38 | op39 | op3A | op3B | op3C | op3D | op3E | op3F
  | op40 | op41 | op42 | op43 | op44 | op45 | op46 | op47 | op48 | op49 | op4A | op4B | op4C | op4D | op4E | op4F
  | op50 | op51 | op52 | op53 | op54 | op55 | op56 | op57 | op58 | op59 | op5A | op5B | op5C | op5D | op5E | op5F
  | op60 | op61 | op62 | op63 | op64 | op65 | op66 | op67 | op68 | op69 | op6A | op6B | op6C | op6D | op6E | op6F
  | op70 | op71 | op72 | op73 | op74 | op75 | op76 | op77 | op78 | op79 | op7A | op7B | op7C | op7D | op7E | op7F
  | op80 | op81 | op82 | op83 | op84 | op85 | op86 | op87 | op88 | op89 | op8A | op8B | op8C | op8D | op8E | op8F
  | op90 | op91 | op92 | op93 | op94 | op95 | op96 | op97 | op98 | op99 | op9A | op9B | op9C | op9D | op9E | op9F
  | opA0 | opA1 | opA2 | opA3 | opA4 | opA5 | opA6 | opA7 | opA8 | opA9 | opAA | opAB | opAC | opAD | opAE | opAF
  | opB0 | opB1 | opB2 | opB3 | opB4 | opB5 | opB6 | opB7 | opB8 | opB9 | opBA | opBB | opBC | opBD | opBE | opBF
  | opC0 | opC1 | opC2 | opC3 | opC4 | opC5 | opC6 | opC7 | opC8 | opC9 | opCA | opCB | opCC | opCD | opCE | opCF
  | opD0 | opD1 | opD2 | opD3 | opD4 | opD5 | opD6 | opD7 | opD8 | opD9 | opDA | opDB | opDC | opDD | opDE | opDF
  | opE0 | opE1 | opE2 | opE3 | opE4 | opE5 | opE6 | opE7 | opE8 | opE9 | opEA | opEB | opEC | opED | opEE | opEF
  | opF0 | opF1 | opF2 | opF3 | opF4 | opF5 | opF6 | opF7 | opF8 | opF9 | opFA | opFB | opFC | opFD | opFE | opFF
  deriving DecidableEq, Repr

end Sys2Proof
end

