-- ==== Sys2Proof/Machine/Operands.lean ====
section
/-! DEFINITION. The operand forms: the twelve addressing-mode tags, the `OperandSizeResolver` (spec/30_encoding.md
R68), the three instruction formats (R50), the tag codes (R75), and the class each instruction is listed in by the
family files (spec/41_zero_page.md to spec/48_implicit.md). No operand is fetched, extended or joined into an
address: the block computes no operand value (30_encoding.md R70, R73). -/

namespace Sys2Proof

/-- `AddrMode`, "a closed set of named variants", in the document's order (30_encoding.md R67). -/
inductive AddrMode where
  | zeroPage | zeroPageX | zeroPageY | abs | absIdxX | absIdxY
  | indIdxX | indIdxY | ind | imm | rel | implicit
  deriving DecidableEq, Repr

/-- The three instruction formats (30_encoding.md R50): the opcode alone, with one, with two operand bytes. -/
inductive Format where
  | f0 | f1 | f2
  deriving DecidableEq, Repr

/-- The twelve tags in the document's order. -/
def AddrMode.all : List AddrMode :=
  [.zeroPage, .zeroPageX, .zeroPageY, .abs, .absIdxX, .absIdxY, .indIdxX, .indIdxY, .ind, .imm, .rel, .implicit]

/-- `operand_size(m)`, the resolver's table (30_encoding.md R68). `ind` is 2, not 0 (90_conflicts.md C1). -/
def operandSize : AddrMode → Nat
  | .zeroPage => 1
  | .zeroPageX => 1
  | .zeroPageY => 1
  | .abs => 2
  | .absIdxX => 2
  | .absIdxY => 2
  | .indIdxX => 1
  | .indIdxY => 1
  | .ind => 2
  | .imm => 1
  | .rel => 1
  | .implicit => 0

/-- The format of every instruction of a class (30_encoding.md R50, R68). -/
def AddrMode.format : AddrMode → Format
  | .implicit => .f0
  | .zeroPage | .zeroPageX | .zeroPageY | .indIdxX | .indIdxY | .imm | .rel => .f1
  | .abs | .absIdxX | .absIdxY | .ind => .f2

/-- Length in bytes of every instruction of a class: `1 + operand size` (30_encoding.md R50). -/
def AddrMode.length (m : AddrMode) : Nat := 1 + operandSize m

/-- The numeric code of a tag where one is needed: its position in the document's list (30_encoding.md R75). -/
def AddrMode.code : AddrMode → BitVec 4
  | .zeroPage => 0
  | .zeroPageX => 1
  | .zeroPageY => 2
  | .abs => 3
  | .absIdxX => 4
  | .absIdxY => 5
  | .indIdxX => 6
  | .indIdxY => 7
  | .ind => 8
  | .imm => 9
  | .rel => 10
  | .implicit => 11

/-- The class the family files list an instruction in (R200, R233, R262, R300, R333, R362, R400, R417, R434, R500,
R550, R600; the field `mode` of opcode_table.json). It is written from those lists, not from the twelve tests. -/
def Instr.classOf : Instr → AddrMode
  | .op04 | .op05 | .op06 | .op07 | .op24 | .op25 | .op26 | .op27 | .op44 | .op45 | .op46 | .op47 | .op64
    | .op65 | .op66 | .op67 | .op84 | .op85 | .op86 | .op87 | .opA4 | .opA5 | .opA6 | .opA7 | .opC4 | .opC5
    | .opC6 | .opC7 | .opE4 | .opE5 | .opE6 | .opE7 => .zeroPage
  | .op14 | .op15 | .op16 | .op17 | .op34 | .op35 | .op36 | .op37 | .op54 | .op55 | .op56 | .op57 | .op74
    | .op75 | .op76 | .op77 | .op94 | .op95 | .opB4 | .opB5 | .opD4 | .opD5 | .opD6 | .opD7 | .opF4 | .opF5
    | .opF6 | .opF7 => .zeroPageX
  | .op96 | .op97 | .opB6 | .opB7 => .zeroPageY
  | .op0C | .op0D | .op0E | .op0F | .op20 | .op2C | .op2D | .op2E | .op2F | .op4C | .op4D | .op4E | .op4F
    | .op6D | .op6E | .op6F | .op8C | .op8D | .op8E | .op8F | .opAC | .opAD | .opAE | .opAF | .opCC | .opCD
    | .opCE | .opCF | .opEC | .opED | .opEE | .opEF => .abs
  | .op1C | .op1D | .op1E | .op1F | .op3C | .op3D | .op3E | .op3F | .op5C | .op5D | .op5E | .op5F | .op7C
    | .op7D | .op7E | .op7F | .op9C | .op9D | .opBC | .opBD | .opDC | .opDD | .opDE | .opDF | .opFC | .opFD
    | .opFE | .opFF => .absIdxX
  | .op19 | .op9E | .op9F | .opBE | .opBF => .absIdxY
  | .op01 | .op03 | .op21 | .op23 | .op41 | .op43 | .op61 | .op63 | .op81 | .op83 | .opA1 | .opA3 | .opC1
    | .opC3 | .opE1 | .opE3 => .indIdxX
  | .op11 | .op13 | .op31 | .op33 | .op51 | .op53 | .op71 | .op73 | .op91 | .op93 | .opB1 | .opB3 | .opD1
    | .opD3 | .opF1 | .opF3 => .indIdxY
  | .op6C => .ind
  | .op09 | .op0B | .op29 | .op2B | .op49 | .op4B | .op69 | .op6B | .op80 | .op82 | .op89 | .op8B | .opA0
    | .opA2 | .opA9 | .opAB | .opC0 | .opC2 | .opC9 | .opCB | .opE0 | .opE2 | .opE9 | .opEB => .imm
  | .op10 | .op30 | .op50 | .op70 | .op90 | .opB0 | .opD0 | .opF0 => .rel
  | .op00 | .op02 | .op08 | .op0A | .op12 | .op18 | .op1A | .op1B | .op22 | .op28 | .op2A | .op32 | .op38
    | .op39 | .op3A | .op3B | .op40 | .op42 | .op48 | .op4A | .op52 | .op58 | .op59 | .op5A | .op5B | .op60
    | .op62 | .op68 | .op6A | .op72 | .op78 | .op79 | .op7A | .op7B | .op88 | .op8A | .op92 | .op98 | .op99
    | .op9A | .op9B | .opA8 | .opAA | .opB2 | .opB8 | .opB9 | .opBA | .opBB | .opC8 | .opCA | .opD2 | .opD8
    | .opD9 | .opDA | .opDB | .opE8 | .opEA | .opF2 | .opF8 | .opF9 | .opFA | .opFB => .implicit

end Sys2Proof
end

