-- ==== Sys2Proof/WellFormed.lean ====
section
/-! DEFINITION. An instruction with its operand bytes, and when it is well formed (spec/30_encoding.md R50). -/

namespace Sys2Proof

/-- "An opcode byte together with the 0, 1 or 2 operand bytes that follow it in memory" (00_scope.md section 7). The
operand bytes stand in ascending address order and have no numeric value (20_memory.md R35, 30_encoding.md R70). -/
structure Insn where
  instr : Instr
  operands : List Byte
  deriving DecidableEq, Repr

/-- An instruction is well formed when it has as many operand bytes as its class has (30_encoding.md R50, R68). This is
the one check there is: every opcode and every operand byte value is legal (R72, R70). -/
def Insn.wellFormed (x : Insn) : Bool := x.operands.length == operandSize x.instr.classOf

end Sys2Proof
end

