-- ==== Sys2Proof/Decode.lean ====
section
/-! DEFINITION. The decoder and the encoder of spec/30_encoding.md: the two fields of the opcode (R51, R52), the
twelve ordered tests of the `AddrModeClassifier` (R53 to R65), the opcode byte of every instruction, decoding of a byte
sequence (total, rejecting by name), encoding, and the listing of a byte sequence (R76). -/

namespace Sys2Proof

/-! ## The classifier -/

/-- The high field `h`, opcode bits 7 to 5 (30_encoding.md R51). -/
def hField (op : Byte) : BitVec 3 := op.extractLsb' 5 3

/-- The low field `l`, opcode bits 4 to 0 (30_encoding.md R51). -/
def lField (op : Byte) : BitVec 5 := op.extractLsb' 0 5

/-- `l & ~0b00010`: the low field with its bit 1 cleared (30_encoding.md R52). -/
def lMasked (op : Byte) : BitVec 5 := lField op &&& ~~~0b00010#5

/-- `l[4:2]` (30_encoding.md R52). -/
def lHigh3 (op : Byte) : BitVec 3 := (lField op).extractLsb' 2 3

/-- `l[4:1]` (30_encoding.md R52). -/
def lHigh4 (op : Byte) : BitVec 4 := (lField op).extractLsb' 1 4

/-- `h[2:1]` (30_encoding.md R52). -/
def hHigh2 (op : Byte) : BitVec 2 := (hField op).extractLsb' 1 2

/-- `T1`: the opcode is `0x6C` (R54). -/
def test1 (op : Byte) : Bool := op == 0x6C#8

/-- `T2`: `l[4:2] == 0b001` (R55). -/
def test2 (op : Byte) : Bool := lHigh3 op == 0b001#3

/-- `T3`: `h[2:1] == 0b10` and `l[4:1] == 0b1011` (R56). -/
def test3 (op : Byte) : Bool := hHigh2 op == 0b10#2 && lHigh4 op == 0b1011#4

/-- `T4`: `l[4:2] == 0b101` (R57). -/
def test4 (op : Byte) : Bool := lHigh3 op == 0b101#3

/-- `T5`: `l[4:2] == 0b011`, or the opcode is `0x20` (R58). -/
def test5 (op : Byte) : Bool := lHigh3 op == 0b011#3 || op == 0x20#8

/-- `T6`: `h[2] != 0` and `l & ~0b00010 == 0`, or `l & ~0b00010 == 0b01001` (R59). -/
def test6 (op : Byte) : Bool :=
  ((hField op).getLsbD 2 && lMasked op == 0b00000#5) || lMasked op == 0b01001#5

/-- `T7`: `l == 0b10000` (R60). -/
def test7 (op : Byte) : Bool := lField op == 0b10000#5

/-- `T8`: `l & ~0b00010 == 0b00001` (R61). -/
def test8 (op : Byte) : Bool := lMasked op == 0b00001#5

/-- `T9`: `l & ~0b00010 == 0b10001` (R62). -/
def test9 (op : Byte) : Bool := lMasked op == 0b10001#5

/-- `T10`: the opcode is `0x19`, or `h[2:1] == 0b10` and `l[4:1] == 0b1111` (R63). -/
def test10 (op : Byte) : Bool := op == 0x19#8 || (hHigh2 op == 0b10#2 && lHigh4 op == 0b1111#4)

/-- `T11`: `l[4:2] == 0b111` (R64). -/
def test11 (op : Byte) : Bool := lHigh3 op == 0b111#3

/-- `classify(op)`: the first matching test wins, and `T12` is the default (R53, R65). The order is part of the
specification (R78). -/
def classify (op : Byte) : AddrMode :=
  if test1 op then .ind
  else if test2 op then .zeroPage
  else if test3 op then .zeroPageY
  else if test4 op then .zeroPageX
  else if test5 op then .abs
  else if test6 op then .imm
  else if test7 op then .rel
  else if test8 op then .indIdxX
  else if test9 op then .indIdxY
  else if test10 op then .absIdxY
  else if test11 op then .absIdxX
  else .implicit

/-- Length in bytes of the instruction an opcode byte starts (30_encoding.md R50, R71). -/
def lengthOf (op : Byte) : Nat := 1 + operandSize (classify op)

/-! ## Opcode bytes and instructions -/

/-- The opcode byte of an instruction: `OP_hh` is the byte `0xhh` (30_encoding.md R76). -/
def Instr.opcode : Instr → Byte
  | .op00 => 0x00 | .op01 => 0x01
  | .op02 => 0x02 | .op03 => 0x03
  | .op04 => 0x04 | .op05 => 0x05
  | .op06 => 0x06 | .op07 => 0x07
  | .op08 => 0x08 | .op09 => 0x09
  | .op0A => 0x0A | .op0B => 0x0B
  | .op0C => 0x0C | .op0D => 0x0D
  | .op0E => 0x0E | .op0F => 0x0F
  | .op10 => 0x10 | .op11 => 0x11
  | .op12 => 0x12 | .op13 => 0x13
  | .op14 => 0x14 | .op15 => 0x15
  | .op16 => 0x16 | .op17 => 0x17
  | .op18 => 0x18 | .op19 => 0x19
  | .op1A => 0x1A | .op1B => 0x1B
  | .op1C => 0x1C | .op1D => 0x1D
  | .op1E => 0x1E | .op1F => 0x1F
  | .op20 => 0x20 | .op21 => 0x21
  | .op22 => 0x22 | .op23 => 0x23
  | .op24 => 0x24 | .op25 => 0x25
  | .op26 => 0x26 | .op27 => 0x27
  | .op28 => 0x28 | .op29 => 0x29
  | .op2A => 0x2A | .op2B => 0x2B
  | .op2C => 0x2C | .op2D => 0x2D
  | .op2E => 0x2E | .op2F => 0x2F
  | .op30 => 0x30 | .op31 => 0x31
  | .op32 => 0x32 | .op33 => 0x33
  | .op34 => 0x34 | .op35 => 0x35
  | .op36 => 0x36 | .op37 => 0x37
  | .op38 => 0x38 | .op39 => 0x39
  | .op3A => 0x3A | .op3B => 0x3B
  | .op3C => 0x3C | .op3D => 0x3D
  | .op3E => 0x3E | .op3F => 0x3F
  | .op40 => 0x40 | .op41 => 0x41
  | .op42 => 0x42 | .op43 => 0x43
  | .op44 => 0x44 | .op45 => 0x45
  | .op46 => 0x46 | .op47 => 0x47
  | .op48 => 0x48 | .op49 => 0x49
  | .op4A => 0x4A | .op4B => 0x4B
  | .op4C => 0x4C | .op4D => 0x4D
  | .op4E => 0x4E | .op4F => 0x4F
  | .op50 => 0x50 | .op51 => 0x51
  | .op52 => 0x52 | .op53 => 0x53
  | .op54 => 0x54 | .op55 => 0x55
  | .op56 => 0x56 | .op57 => 0x57
  | .op58 => 0x58 | .op59 => 0x59
  | .op5A => 0x5A | .op5B => 0x5B
  | .op5C => 0x5C | .op5D => 0x5D
  | .op5E => 0x5E | .op5F => 0x5F
  | .op60 => 0x60 | .op61 => 0x61
  | .op62 => 0x62 | .op63 => 0x63
  | .op64 => 0x64 | .op65 => 0x65
  | .op66 => 0x66 | .op67 => 0x67
  | .op68 => 0x68 | .op69 => 0x69
  | .op6A => 0x6A | .op6B => 0x6B
  | .op6C => 0x6C | .op6D => 0x6D
  | .op6E => 0x6E | .op6F => 0x6F
  | .op70 => 0x70 | .op71 => 0x71
  | .op72 => 0x72 | .op73 => 0x73
  | .op74 => 0x74 | .op75 => 0x75
  | .op76 => 0x76 | .op77 => 0x77
  | .op78 => 0x78 | .op79 => 0x79
  | .op7A => 0x7A | .op7B => 0x7B
  | .op7C => 0x7C | .op7D => 0x7D
  | .op7E => 0x7E | .op7F => 0x7F
  | .op80 => 0x80 | .op81 => 0x81
  | .op82 => 0x82 | .op83 => 0x83
  | .op84 => 0x84 | .op85 => 0x85
  | .op86 => 0x86 | .op87 => 0x87
  | .op88 => 0x88 | .op89 => 0x89
  | .op8A => 0x8A | .op8B => 0x8B
  | .op8C => 0x8C | .op8D => 0x8D
  | .op8E => 0x8E | .op8F => 0x8F
  | .op90 => 0x90 | .op91 => 0x91
  | .op92 => 0x92 | .op93 => 0x93
  | .op94 => 0x94 | .op95 => 0x95
  | .op96 => 0x96 | .op97 => 0x97
  | .op98 => 0x98 | .op99 => 0x99
  | .op9A => 0x9A | .op9B => 0x9B
  | .op9C => 0x9C | .op9D => 0x9D
  | .op9E => 0x9E | .op9F => 0x9F
  | .opA0 => 0xA0 | .opA1 => 0xA1
  | .opA2 => 0xA2 | .opA3 => 0xA3
  | .opA4 => 0xA4 | .opA5 => 0xA5
  | .opA6 => 0xA6 | .opA7 => 0xA7
  | .opA8 => 0xA8 | .opA9 => 0xA9
  | .opAA => 0xAA | .opAB => 0xAB
  | .opAC => 0xAC | .opAD => 0xAD
  | .opAE => 0xAE | .opAF => 0xAF
  | .opB0 => 0xB0 | .opB1 => 0xB1
  | .opB2 => 0xB2 | .opB3 => 0xB3
  | .opB4 => 0xB4 | .opB5 => 0xB5
  | .opB6 => 0xB6 | .opB7 => 0xB7
  | .opB8 => 0xB8 | .opB9 => 0xB9
  | .opBA => 0xBA | .opBB => 0xBB
  | .opBC => 0xBC | .opBD => 0xBD
  | .opBE => 0xBE | .opBF => 0xBF
  | .opC0 => 0xC0 | .opC1 => 0xC1
  | .opC2 => 0xC2 | .opC3 => 0xC3
  | .opC4 => 0xC4 | .opC5 => 0xC5
  | .opC6 => 0xC6 | .opC7 => 0xC7
  | .opC8 => 0xC8 | .opC9 => 0xC9
  | .opCA => 0xCA | .opCB => 0xCB
  | .opCC => 0xCC | .opCD => 0xCD
  | .opCE => 0xCE | .opCF => 0xCF
  | .opD0 => 0xD0 | .opD1 => 0xD1
  | .opD2 => 0xD2 | .opD3 => 0xD3
  | .opD4 => 0xD4 | .opD5 => 0xD5
  | .opD6 => 0xD6 | .opD7 => 0xD7
  | .opD8 => 0xD8 | .opD9 => 0xD9
  | .opDA => 0xDA | .opDB => 0xDB
  | .opDC => 0xDC | .opDD => 0xDD
  | .opDE => 0xDE | .opDF => 0xDF
  | .opE0 => 0xE0 | .opE1 => 0xE1
  | .opE2 => 0xE2 | .opE3 => 0xE3
  | .opE4 => 0xE4 | .opE5 => 0xE5
  | .opE6 => 0xE6 | .opE7 => 0xE7
  | .opE8 => 0xE8 | .opE9 => 0xE9
  | .opEA => 0xEA | .opEB => 0xEB
  | .opEC => 0xEC | .opED => 0xED
  | .opEE => 0xEE | .opEF => 0xEF
  | .opF0 => 0xF0 | .opF1 => 0xF1
  | .opF2 => 0xF2 | .opF3 => 0xF3
  | .opF4 => 0xF4 | .opF5 => 0xF5
  | .opF6 => 0xF6 | .opF7 => 0xF7
  | .opF8 => 0xF8 | .opF9 => 0xF9
  | .opFA => 0xFA | .opFB => 0xFB
  | .opFC => 0xFC | .opFD => 0xFD
  | .opFE => 0xFE | .opFF => 0xFF

/-- The opcode map (30_encoding.md section 6): the instructions of a row, that is of a high nibble `op[7:4]`, by
column, that is by low nibble `op[3:0]`. The last row is that of the nibble `0xF`, the highest there is. -/
def opcodeRow (hi : Nat) : List Instr :=
  match hi with
  | 0 => [.op00, .op01, .op02, .op03, .op04, .op05, .op06, .op07, .op08, .op09, .op0A, .op0B, .op0C, .op0D, .op0E, .op0F]
  | 1 => [.op10, .op11, .op12, .op13, .op14, .op15, .op16, .op17, .op18, .op19, .op1A, .op1B, .op1C, .op1D, .op1E, .op1F]
  | 2 => [.op20, .op21, .op22, .op23, .op24, .op25, .op26, .op27, .op28, .op29, .op2A, .op2B, .op2C, .op2D, .op2E, .op2F]
  | 3 => [.op30, .op31, .op32, .op33, .op34, .op35, .op36, .op37, .op38, .op39, .op3A, .op3B, .op3C, .op3D, .op3E, .op3F]
  | 4 => [.op40, .op41, .op42, .op43, .op44, .op45, .op46, .op47, .op48, .op49, .op4A, .op4B, .op4C, .op4D, .op4E, .op4F]
  | 5 => [.op50, .op51, .op52, .op53, .op54, .op55, .op56, .op57, .op58, .op59, .op5A, .op5B, .op5C, .op5D, .op5E, .op5F]
  | 6 => [.op60, .op61, .op62, .op63, .op64, .op65, .op66, .op67, .op68, .op69, .op6A, .op6B, .op6C, .op6D, .op6E, .op6F]
  | 7 => [.op70, .op71, .op72, .op73, .op74, .op75, .op76, .op77, .op78, .op79, .op7A, .op7B, .op7C, .op7D, .op7E, .op7F]
  | 8 => [.op80, .op81, .op82, .op83, .op84, .op85, .op86, .op87, .op88, .op89, .op8A, .op8B, .op8C, .op8D, .op8E, .op8F]
  | 9 => [.op90, .op91, .op92, .op93, .op94, .op95, .op96, .op97, .op98, .op99, .op9A, .op9B, .op9C, .op9D, .op9E, .op9F]
  | 10 => [.opA0, .opA1, .opA2, .opA3, .opA4, .opA5, .opA6, .opA7, .opA8, .opA9, .opAA, .opAB, .opAC, .opAD, .opAE, .opAF]
  | 11 => [.opB0, .opB1, .opB2, .opB3, .opB4, .opB5, .opB6, .opB7, .opB8, .opB9, .opBA, .opBB, .opBC, .opBD, .opBE, .opBF]
  | 12 => [.opC0, .opC1, .opC2, .opC3, .opC4, .opC5, .opC6, .opC7, .opC8, .opC9, .opCA, .opCB, .opCC, .opCD, .opCE, .opCF]
  | 13 => [.opD0, .opD1, .opD2, .opD3, .opD4, .opD5, .opD6, .opD7, .opD8, .opD9, .opDA, .opDB, .opDC, .opDD, .opDE, .opDF]
  | 14 => [.opE0, .opE1, .opE2, .opE3, .opE4, .opE5, .opE6, .opE7, .opE8, .opE9, .opEA, .opEB, .opEC, .opED, .opEE, .opEF]
  | _ => [.opF0, .opF1, .opF2, .opF3, .opF4, .opF5, .opF6, .opF7, .opF8, .opF9, .opFA, .opFB, .opFC, .opFD, .opFE, .opFF]

theorem opcodeRow_length (hi : Nat) : (opcodeRow hi).length = 16 := by
  unfold opcodeRow; split <;> rfl

theorem opcodeRow_covers (hi lo : Nat) : lo % 16 < (opcodeRow hi).length := by
  rw [opcodeRow_length]; omega

/-- The instruction an opcode byte names. Every one of the 256 values names one (30_encoding.md R72). -/
def decodeOpcode (op : Byte) : Instr :=
  (opcodeRow (op.toNat / 16))[op.toNat % 16]'(opcodeRow_covers _ _)

/-! ## Byte sequences -/

/-- Why a byte sequence holds no whole instruction at its start. No opcode value is a reason (30_encoding.md R72,
R114): only missing bytes are. -/
inductive DecodeReject where
  | noOpcode         -- the sequence is empty
  | missingOperands  -- fewer operand bytes follow the opcode than its class needs
  | tooMany          -- `decodeUpTo` only: bytes are left after the number of instructions asked for
  deriving DecidableEq, Repr

/-- Decode the instruction a byte sequence starts with, and give the bytes after it: the opcode is the first byte, its
class gives the number of operand bytes, and they follow in memory order (30_encoding.md R50, R70, R71). -/
def decode : List Byte → Except DecodeReject (Insn × List Byte)
  | [] => .error .noOpcode
  | op :: rest =>
    let n := operandSize (classify op)
    if n ≤ rest.length then .ok ({ instr := decodeOpcode op, operands := rest.take n }, rest.drop n)
    else .error .missingOperands

/-- The bytes of an instruction in ascending address order (30_encoding.md R50). -/
def encode (x : Insn) : List Byte := x.instr.opcode :: x.operands

/-- The bytes of a sequence of instructions, each directly after the one before (20_memory.md R36). -/
def encodeAll : List Insn → List Byte
  | [] => []
  | x :: xs => encode x ++ encodeAll xs

/-- Decode a whole byte sequence into at most `max` instructions, each directly after the one before. -/
def decodeUpTo : Nat → List Byte → Except DecodeReject (List Insn)
  | _, [] => .ok []
  | 0, _ :: _ => .error .tooMany
  | max + 1, b :: bs =>
    match decode (b :: bs) with
    | .error r => .error r
    | .ok (x, rest) =>
      match decodeUpTo max rest with
      | .error r => .error r
      | .ok xs => .ok (x :: xs)

/-! ## Names and listings -/

/-- One upper-case hex digit of a nibble. -/
def hexDigit (n : Nat) : Char :=
  if n < 10 then Char.ofNat (48 + n) else Char.ofNat (55 + n)

/-- Two upper-case hex digits of a byte. -/
def hexByte (b : Byte) : String := String.ofList [hexDigit (b.toNat / 16), hexDigit (b.toNat % 16)]

/-- The name `OP_hh` (30_encoding.md R76). -/
def Instr.mnemonic (i : Instr) : String := "OP_" ++ hexByte i.opcode

/-- An instruction in listing syntax: its name, then its operand bytes in memory order (30_encoding.md R76). -/
def Insn.text (x : Insn) : String :=
  x.operands.foldl (fun t b => t ++ " " ++ hexByte b) x.instr.mnemonic

/-- One line of a listing: `address: bytes | instruction | tag, length` (30_encoding.md R76). -/
structure ListingLine where
  addr : Nat
  bytes : List Byte
  text : String
  mode : AddrMode
  length : Nat
  deriving DecidableEq, Repr

/-- The listing line of an instruction at an address. -/
def Insn.line (addr : Nat) (x : Insn) : ListingLine :=
  { addr := addr, bytes := encode x, text := x.text, mode := classify x.instr.opcode,
    length := lengthOf x.instr.opcode }

/-- The listing of instructions that follow each other from an address. -/
def listing : Nat → List Insn → List ListingLine
  | _, [] => []
  | addr, x :: xs => x.line addr :: listing (addr + lengthOf x.instr.opcode) xs

/-! ## The host's way in -/

/-- The bytes of a table word at rising addresses: bits 7 to 0 first, the bits at and above `nbits` zero, up to the
longest instruction of three bytes (30_encoding.md R50). -/
def tableBytes (nbits w : Nat) : List Byte :=
  let v := w % 2 ^ nbits
  [BitVec.ofNat 8 v, BitVec.ofNat 8 (v / 256), BitVec.ofNat 8 (v / 65536)]

/-- The instruction the decoder reads from a word numbered as spec/opcode_table.json numbers it. -/
def decodeTableWord (nbits w : Nat) : Option Instr :=
  match decode (tableBytes nbits w) with
  | .ok (x, _) => some x.instr
  | .error _ => none

end Sys2Proof
end

