-- ==== Sys2Proof/Config.lean ====
section
/-! DEFINITION. The parameters an instance of the block is created with (spec/00_scope.md section 4). They are
fixed for the life of the instance: no operation of the model writes one. -/

namespace Sys2Proof

/-- The parameter `PC_OVERFLOW` (00_scope.md section 4, 40_step.md R96): what a step does in the one case where
`pc + length` is exactly 65536. -/
inductive PcOverflow where
  | wrap   -- the new program counter is 0x0000 and the step succeeds
  | fault  -- the step raises `OutOfBounds` and changes nothing
  deriving DecidableEq, Repr

/-- The constants of one processor instance. -/
structure Config where
  /-- "architecture identifier string (informational only)" (10_state.md R19); no rule reads it. -/
  archId : String
  /-- `PC_OVERFLOW` (40_step.md R96). -/
  pcOverflow : PcOverflow
  deriving DecidableEq, Repr

/-- The parameters `State.reset` is created with: `PC_OVERFLOW` at the default 00_scope.md section 4 states, and
the empty identifier string. DESIGN CHOICE (log entry 4): the spec gives no identifier. -/
def Config.standard : Config := { archId := "", pcOverflow := .wrap }

end Sys2Proof
end

