-- ==== Sys2Proof/Machine/State.lean ====
section
/-! DEFINITION. The state of the machine, the reasons an operation stops, and the state after reset
(spec/10_state.md, spec/20_memory.md R30, spec/60_exceptions.md R110, spec/70_reset_and_hazards.md R130). -/

namespace Sys2Proof.Machine

/-- `Registers`, "a fixed-size record representing processor state at a point in time" (10_state.md R10). No field has a
sign (R22, log entry 20). -/
structure Registers where
  /-- `A`, the accumulator (R11). -/
  a : Byte
  /-- `X`, index register X (R12). -/
  x : Byte
  /-- `Y`, index register Y (R13). -/
  y : Byte
  /-- `pc`, the address of the next opcode to fetch (R14). -/
  pc : Addr
  /-- `SP`, the stack pointer (R15). -/
  sp : Byte
  /-- `P`, the status register: eight opaque bits with no named field (R16, log entry 11). -/
  p : Byte
  deriving DecidableEq, Repr

/-- "All-default (zero) values" (10_state.md R17, R18). -/
def Registers.zero : Registers := { a := 0, x := 0, y := 0, pc := 0, sp := 0, p := 0 }

/-- The memory view a step is handed (20_memory.md R30): `len` is `MEMLEN`, at most 65536 by its type (log entry 7), and
`cells` lists the bytes of the view in canonical form (`Memory.wf`); a byte of the view that is not listed is
`Memory.unlisted` (log entry 3). -/
structure Memory where
  len : Fin 65537
  cells : List Host.Cell
  deriving DecidableEq, Repr

/-- The whole state: the instance's constants (10_state.md R19, 40_step.md R96), its registers (R10), and the view the
driver has handed over for the next step (10_state.md R21: an input of the step, held here because a step is a function
of one state, log entry 1). -/
structure State where
  cfg : Config
  regs : Registers
  mem : Memory
  deriving DecidableEq, Repr

/-- The conditions an operation of the block ends in (60_exceptions.md R110). -/
inductive Fault where
  /-- `OutOfBounds` (60_exceptions.md R111): raised by `step` and the meanings when the opcode byte or an operand byte
  lies outside the memory view, and at the top of the address space when `PC_OVERFLOW` is `fault` (40_step.md R96). It
  carries no payload (R116). Safe: the spec gives the failed step this result and no other effect (R112, R113). -/
  | outOfBounds
  deriving DecidableEq, Repr

/-- Why the model gives no result. -/
inductive Refusal where
  /-- Raised by an arm of `exec` whose instruction has no meaning yet; no arm of this model does. Safe. -/
  | notModelled (mnemonic : String)
  /-- `NotImplemented` (60_exceptions.md R115): the answer of the run and execute surface (`runRequest`) to every call,
  and of nothing else. Safe: it is the answer the spec gives, and nothing changes. -/
  | notImplemented
  /-- Raised by `supplyView` when the driver hands over more than 65536 bytes, which the spec leaves out of the block's
  domain (20_memory.md R30, 93_implementation_defined.md U12). Safe: the state is unchanged. -/
  | viewTooLong
  deriving DecidableEq, Repr

/-- The creation of a processor (10_state.md R17, R19, 40_step.md R101): all registers zero, the instance's constants as
given, over the view the driver has in place. -/
def State.create (cfg : Config) (view : Memory) : State := { cfg := cfg, regs := Registers.zero, mem := view }

/-- A view of the whole address space with no byte listed. DESIGN CHOICE (log entries 2 and 3): the spec fixes neither
the length nor the contents of the view. -/
def Memory.blank : Memory := { len := 65536, cells := [] }

/-- The machine right after reset (70_reset_and_hazards.md R130). -/
def State.reset : State := State.create Config.standard Memory.blank

end Sys2Proof.Machine
end

