-- ==== Sys2Proof/Machine/Flags.lean ====
section
/-! DEFINITION. The status register. The hardware defines no flag in it and no instruction computes, tests or writes one
(spec/10_state.md section 2, R16; spec/40_step.md R95), so there is no flag computation to give. -/

namespace Sys2Proof.Machine

/-- `P` read whole, as the driver may read it between steps (`reg_P`, 40_step.md R100). No bit has a name (R16). -/
def State.status (s : State) : Byte := s.regs.p

end Sys2Proof.Machine
end

