-- ==== Sys2Proof/Machine/Ops.lean ====
section
/-! DEFINITION. The operations every meaning is built from: the memory view and its one read (spec/20_memory.md), the
one register write (spec/10_state.md R14), raising a condition (spec/60_exceptions.md), and stepping over an instruction
(spec/40_step.md R91). -/

namespace Sys2Proof.Machine

/-! ## The memory view -/

/-- What a byte of the view that is not listed is: `0x00` (spec/95_test_vectors.md section 4: "Bytes of `MEM` not listed
are `0x00`"; log entry 3). It is no byte of an address outside the view. -/
def Memory.unlisted : Byte := 0x00#8

/-- The byte a list of cells gives an address. -/
def Memory.lookup : List Host.Cell → Nat → Byte
  | [], _ => Memory.unlisted
  | (k, b) :: rest, a => if k = a then b else Memory.lookup rest a

/-- `MemRead(addr, 1)` (20_memory.md R32): the byte, or nothing when `addr >= MEMLEN`. The address is a natural number
and is never reduced. -/
def Memory.read (m : Memory) (a : Nat) : Option Byte :=
  if a < m.len.val then some (Memory.lookup m.cells a) else none

/-- `MemRead(addr, n)` (00_scope.md section 6): the `n` bytes from `addr` on, lowest address first, or nothing when
`addr + n > MEMLEN`. The block only uses `n = 1`; a consumer reads operand bytes so (20_memory.md R35). -/
def Memory.readBytes (m : Memory) (a n : Nat) : Option (List Byte) :=
  if a + n ≤ m.len.val then some ((List.range n).map fun k => Memory.lookup m.cells (a + k)) else none

/-- All bytes of the view, lowest address first (20_memory.md R30). -/
def Memory.toBytes (m : Memory) : List Byte := (List.range m.len.val).map (Memory.lookup m.cells)

/-- The canonical form of a list of cells: addresses strictly rising from `lo`, all below `len`, no cell equal to what
an unlisted address reads as. -/
def Memory.cellsWf (len : Nat) : Nat → List Host.Cell → Bool
  | _, [] => true
  | lo, (k, b) :: rest => decide (lo ≤ k) && decide (k < len) && (b != Memory.unlisted) && Memory.cellsWf len (k + 1) rest

/-- The view is in canonical form, so that equal views are equal data. -/
def Memory.wf (m : Memory) : Bool := Memory.cellsWf m.len.val 0 m.cells

/-- The cells of a byte sequence laid out from `base`. -/
def Memory.cellsOf : Nat → List Byte → List Host.Cell
  | _, [] => []
  | base, b :: bs =>
    if b = Memory.unlisted then Memory.cellsOf (base + 1) bs else (base, b) :: Memory.cellsOf (base + 1) bs

/-- The view made of a byte array, `MEMLEN` being its length, or nothing when that is over 65536 (20_memory.md R30). -/
def Memory.ofBytes (bs : List Byte) : Option Memory :=
  if h : bs.length < 65537 then some { len := ⟨bs.length, h⟩, cells := Memory.cellsOf 0 bs } else none

/-- Put a byte into a canonical list of cells. -/
def Memory.putCell (a : Nat) (b : Byte) : List Host.Cell → List Host.Cell
  | [] => if b = Memory.unlisted then [] else [(a, b)]
  | (k, c) :: rest =>
    if a < k then (if b = Memory.unlisted then (k, c) :: rest else (a, b) :: (k, c) :: rest)
    else if a = k then (if b = Memory.unlisted then rest else (a, b) :: rest)
    else (k, c) :: Memory.putCell a b rest

/-- The view with one byte of it changed. The block never writes memory (20_memory.md R31); this is the driver's view
changed between steps (R41). An address outside the view changes nothing. -/
def Memory.place (m : Memory) (a : Nat) (b : Byte) : Memory :=
  if a < m.len.val then { m with cells := Memory.putCell a b m.cells } else m

/-- The view with the bytes of a list placed at rising addresses from `a`. -/
def Memory.placeBytes (m : Memory) (a : Nat) : List Byte → Memory
  | [] => m
  | b :: bs => Memory.placeBytes (m.place a b) (a + 1) bs

/-- The view made long enough to hold the addresses below `n`, as far as the 16-bit address space goes. -/
def Memory.cover (m : Memory) (n : Nat) : Memory :=
  { m with len := ⟨max m.len.val (min n 65536), by have := m.len.isLt; omega⟩ }

/-! ## Registers and conditions -/

/-- `pc <- v`, the one register write of a step (10_state.md R14, R23). -/
def State.setPc (s : State) (v : Addr) : State := { s with regs := { s.regs with pc := v } }

/-- `raise` (00_scope.md section 6): the operation ends and the condition is its result. There is no entry: no register,
no mode and no memory byte changes, no vector is read (60_exceptions.md R112, R119), so there is no state to give; and
there is no return, because nothing was saved (R120). -/
def raise (f : Fault) : Host.Outcome State Fault Refusal := .fault f

/-! ## Stepping over an instruction -/

/-- The opcode fetch, the one memory read of a step (40_step.md R91, 20_memory.md R31). -/
def fetch (s : State) : Option Byte := s.mem.read s.regs.pc.toNat

/-- Advance over an instruction with `n` operand bytes (40_step.md R91, R93, R96): the bounds check in natural numbers
(20_memory.md R33), the case of a sum of 65536 as `PC_OVERFLOW` says, else the 16-bit program counter after the last
operand byte. -/
def advance (n : Nat) (s : State) : Host.Outcome State Fault Refusal :=
  let p := s.regs.pc.toNat
  if s.mem.len.val ≤ p + n then raise .outOfBounds
  else if p + n + 1 = 65536 ∧ s.cfg.pcOverflow = .fault then raise .outOfBounds
  else .next (s.setPc (BitVec.ofNat 16 (p + n + 1)))

/-- What a step does once it has the opcode byte: classify it, resolve its operand size, advance (40_step.md R91,
00_scope.md R2). -/
def stepOver (op : Byte) (s : State) : Host.Outcome State Fault Refusal := advance (operandSize (classify op)) s

/-- The instruction with its operand bytes that stands at an address, as a consumer or a listing reads it
(30_encoding.md R76, 20_memory.md R35); nothing when the view does not hold all of it. The block does not read operand
bytes (R31): no meaning uses this. -/
def State.insnAt (s : State) (a : Nat) : Option Insn :=
  match s.mem.read a with
  | none => none
  | some op =>
    match s.mem.readBytes (a + 1) (operandSize (classify op)) with
    | none => none
    | some bs => some { instr := decodeOpcode op, operands := bs }

end Sys2Proof.Machine
end

