-- ==== Sys2Proof/Machine/Absolute.lean ====
section
/-! DEFINITION. The meanings of the instructions of spec/43_absolute.md: class `Abs` (R300). Each is the step of spec/40_step.md R91
with its own opcode byte: the bounds check, then the program counter moved past the instruction; nothing else changes
(R95). The rule beside each name is the instruction's own. -/

namespace Sys2Proof.Machine

/-! Class `Abs` (R300): 2 operand bytes. -/

/-- `OP_0C` (R301). -/
def execOp0C (s : State) : Host.Outcome State Fault Refusal := stepOver 0x0C s

/-- `OP_0D` (R302). -/
def execOp0D (s : State) : Host.Outcome State Fault Refusal := stepOver 0x0D s

/-- `OP_0E` (R303). -/
def execOp0E (s : State) : Host.Outcome State Fault Refusal := stepOver 0x0E s

/-- `OP_0F` (R304). -/
def execOp0F (s : State) : Host.Outcome State Fault Refusal := stepOver 0x0F s

/-- `OP_20` (R305). -/
def execOp20 (s : State) : Host.Outcome State Fault Refusal := stepOver 0x20 s

/-- `OP_2C` (R306). -/
def execOp2C (s : State) : Host.Outcome State Fault Refusal := stepOver 0x2C s

/-- `OP_2D` (R307). -/
def execOp2D (s : State) : Host.Outcome State Fault Refusal := stepOver 0x2D s

/-- `OP_2E` (R308). -/
def execOp2E (s : State) : Host.Outcome State Fault Refusal := stepOver 0x2E s

/-- `OP_2F` (R309). -/
def execOp2F (s : State) : Host.Outcome State Fault Refusal := stepOver 0x2F s

/-- `OP_4C` (R310). -/
def execOp4C (s : State) : Host.Outcome State Fault Refusal := stepOver 0x4C s

/-- `OP_4D` (R311). -/
def execOp4D (s : State) : Host.Outcome State Fault Refusal := stepOver 0x4D s

/-- `OP_4E` (R312). -/
def execOp4E (s : State) : Host.Outcome State Fault Refusal := stepOver 0x4E s

/-- `OP_4F` (R313). -/
def execOp4F (s : State) : Host.Outcome State Fault Refusal := stepOver 0x4F s

/-- `OP_6D` (R314). -/
def execOp6D (s : State) : Host.Outcome State Fault Refusal := stepOver 0x6D s

/-- `OP_6E` (R315). -/
def execOp6E (s : State) : Host.Outcome State Fault Refusal := stepOver 0x6E s

/-- `OP_6F` (R316). -/
def execOp6F (s : State) : Host.Outcome State Fault Refusal := stepOver 0x6F s

/-- `OP_8C` (R317). -/
def execOp8C (s : State) : Host.Outcome State Fault Refusal := stepOver 0x8C s

/-- `OP_8D` (R318). -/
def execOp8D (s : State) : Host.Outcome State Fault Refusal := stepOver 0x8D s

/-- `OP_8E` (R319). -/
def execOp8E (s : State) : Host.Outcome State Fault Refusal := stepOver 0x8E s

/-- `OP_8F` (R320). -/
def execOp8F (s : State) : Host.Outcome State Fault Refusal := stepOver 0x8F s

/-- `OP_AC` (R321). -/
def execOpAC (s : State) : Host.Outcome State Fault Refusal := stepOver 0xAC s

/-- `OP_AD` (R322). -/
def execOpAD (s : State) : Host.Outcome State Fault Refusal := stepOver 0xAD s

/-- `OP_AE` (R323). -/
def execOpAE (s : State) : Host.Outcome State Fault Refusal := stepOver 0xAE s

/-- `OP_AF` (R324). -/
def execOpAF (s : State) : Host.Outcome State Fault Refusal := stepOver 0xAF s

/-- `OP_CC` (R325). -/
def execOpCC (s : State) : Host.Outcome State Fault Refusal := stepOver 0xCC s

/-- `OP_CD` (R326). -/
def execOpCD (s : State) : Host.Outcome State Fault Refusal := stepOver 0xCD s

/-- `OP_CE` (R327). -/
def execOpCE (s : State) : Host.Outcome State Fault Refusal := stepOver 0xCE s

/-- `OP_CF` (R328). -/
def execOpCF (s : State) : Host.Outcome State Fault Refusal := stepOver 0xCF s

/-- `OP_EC` (R329). -/
def execOpEC (s : State) : Host.Outcome State Fault Refusal := stepOver 0xEC s

/-- `OP_ED` (R330). -/
def execOpED (s : State) : Host.Outcome State Fault Refusal := stepOver 0xED s

/-- `OP_EE` (R331). -/
def execOpEE (s : State) : Host.Outcome State Fault Refusal := stepOver 0xEE s

/-- `OP_EF` (R332). -/
def execOpEF (s : State) : Host.Outcome State Fault Refusal := stepOver 0xEF s

end Sys2Proof.Machine
end

