-- ==== Sys2Proof/Machine/AbsoluteIndexed.lean ====
section
/-! DEFINITION. The meanings of the instructions of spec/44_absolute_indexed.md: classes `AbsIdxX` (R333), `AbsIdxY` (R362). Each is the step of spec/40_step.md R91
with its own opcode byte: the bounds check, then the program counter moved past the instruction; nothing else changes
(R95). The rule beside each name is the instruction's own. -/

namespace Sys2Proof.Machine

/-! Class `AbsIdxX` (R333): 2 operand bytes. -/

/-- `OP_1C` (R334). -/
def execOp1C (s : State) : Host.Outcome State Fault Refusal := stepOver 0x1C s

/-- `OP_1D` (R335). -/
def execOp1D (s : State) : Host.Outcome State Fault Refusal := stepOver 0x1D s

/-- `OP_1E` (R336). -/
def execOp1E (s : State) : Host.Outcome State Fault Refusal := stepOver 0x1E s

/-- `OP_1F` (R337). -/
def execOp1F (s : State) : Host.Outcome State Fault Refusal := stepOver 0x1F s

/-- `OP_3C` (R338). -/
def execOp3C (s : State) : Host.Outcome State Fault Refusal := stepOver 0x3C s

/-- `OP_3D` (R339). -/
def execOp3D (s : State) : Host.Outcome State Fault Refusal := stepOver 0x3D s

/-- `OP_3E` (R340). -/
def execOp3E (s : State) : Host.Outcome State Fault Refusal := stepOver 0x3E s

/-- `OP_3F` (R341). -/
def execOp3F (s : State) : Host.Outcome State Fault Refusal := stepOver 0x3F s

/-- `OP_5C` (R342). -/
def execOp5C (s : State) : Host.Outcome State Fault Refusal := stepOver 0x5C s

/-- `OP_5D` (R343). -/
def execOp5D (s : State) : Host.Outcome State Fault Refusal := stepOver 0x5D s

/-- `OP_5E` (R344). -/
def execOp5E (s : State) : Host.Outcome State Fault Refusal := stepOver 0x5E s

/-- `OP_5F` (R345). -/
def execOp5F (s : State) : Host.Outcome State Fault Refusal := stepOver 0x5F s

/-- `OP_7C` (R346). -/
def execOp7C (s : State) : Host.Outcome State Fault Refusal := stepOver 0x7C s

/-- `OP_7D` (R347). -/
def execOp7D (s : State) : Host.Outcome State Fault Refusal := stepOver 0x7D s

/-- `OP_7E` (R348). -/
def execOp7E (s : State) : Host.Outcome State Fault Refusal := stepOver 0x7E s

/-- `OP_7F` (R349). -/
def execOp7F (s : State) : Host.Outcome State Fault Refusal := stepOver 0x7F s

/-- `OP_9C` (R350). -/
def execOp9C (s : State) : Host.Outcome State Fault Refusal := stepOver 0x9C s

/-- `OP_9D` (R351). -/
def execOp9D (s : State) : Host.Outcome State Fault Refusal := stepOver 0x9D s

/-- `OP_BC` (R352). -/
def execOpBC (s : State) : Host.Outcome State Fault Refusal := stepOver 0xBC s

/-- `OP_BD` (R353). -/
def execOpBD (s : State) : Host.Outcome State Fault Refusal := stepOver 0xBD s

/-- `OP_DC` (R354). -/
def execOpDC (s : State) : Host.Outcome State Fault Refusal := stepOver 0xDC s

/-- `OP_DD` (R355). -/
def execOpDD (s : State) : Host.Outcome State Fault Refusal := stepOver 0xDD s

/-- `OP_DE` (R356). -/
def execOpDE (s : State) : Host.Outcome State Fault Refusal := stepOver 0xDE s

/-- `OP_DF` (R357). -/
def execOpDF (s : State) : Host.Outcome State Fault Refusal := stepOver 0xDF s

/-- `OP_FC` (R358). -/
def execOpFC (s : State) : Host.Outcome State Fault Refusal := stepOver 0xFC s

/-- `OP_FD` (R359). -/
def execOpFD (s : State) : Host.Outcome State Fault Refusal := stepOver 0xFD s

/-- `OP_FE` (R360). -/
def execOpFE (s : State) : Host.Outcome State Fault Refusal := stepOver 0xFE s

/-- `OP_FF` (R361). -/
def execOpFF (s : State) : Host.Outcome State Fault Refusal := stepOver 0xFF s

/-! Class `AbsIdxY` (R362): 2 operand bytes. -/

/-- `OP_19` (R363). -/
def execOp19 (s : State) : Host.Outcome State Fault Refusal := stepOver 0x19 s

/-- `OP_9E` (R364). -/
def execOp9E (s : State) : Host.Outcome State Fault Refusal := stepOver 0x9E s

/-- `OP_9F` (R365). -/
def execOp9F (s : State) : Host.Outcome State Fault Refusal := stepOver 0x9F s

/-- `OP_BE` (R366). -/
def execOpBE (s : State) : Host.Outcome State Fault Refusal := stepOver 0xBE s

/-- `OP_BF` (R367). -/
def execOpBF (s : State) : Host.Outcome State Fault Refusal := stepOver 0xBF s

end Sys2Proof.Machine
end

