-- ==== Sys2Proof/Machine/Immediate.lean ====
section
/-! DEFINITION. The meanings of the instructions of spec/46_immediate.md: class `Imm` (R500). Each is the step of spec/40_step.md R91
with its own opcode byte: the bounds check, then the program counter moved past the instruction; nothing else changes
(R95). The rule beside each name is the instruction's own. -/

namespace Sys2Proof.Machine

/-! Class `Imm` (R500): 1 operand byte. -/

/-- `OP_09` (R501). -/
def execOp09 (s : State) : Host.Outcome State Fault Refusal := stepOver 0x09 s

/-- `OP_0B` (R502). -/
def execOp0B (s : State) : Host.Outcome State Fault Refusal := stepOver 0x0B s

/-- `OP_29` (R503). -/
def execOp29 (s : State) : Host.Outcome State Fault Refusal := stepOver 0x29 s

/-- `OP_2B` (R504). -/
def execOp2B (s : State) : Host.Outcome State Fault Refusal := stepOver 0x2B s

/-- `OP_49` (R505). -/
def execOp49 (s : State) : Host.Outcome State Fault Refusal := stepOver 0x49 s

/-- `OP_4B` (R506). -/
def execOp4B (s : State) : Host.Outcome State Fault Refusal := stepOver 0x4B s

/-- `OP_69` (R507). -/
def execOp69 (s : State) : Host.Outcome State Fault Refusal := stepOver 0x69 s

/-- `OP_6B` (R508). -/
def execOp6B (s : State) : Host.Outcome State Fault Refusal := stepOver 0x6B s

/-- `OP_80` (R509). -/
def execOp80 (s : State) : Host.Outcome State Fault Refusal := stepOver 0x80 s

/-- `OP_82` (R510). -/
def execOp82 (s : State) : Host.Outcome State Fault Refusal := stepOver 0x82 s

/-- `OP_89` (R511). -/
def execOp89 (s : State) : Host.Outcome State Fault Refusal := stepOver 0x89 s

/-- `OP_8B` (R512). -/
def execOp8B (s : State) : Host.Outcome State Fault Refusal := stepOver 0x8B s

/-- `OP_A0` (R513). -/
def execOpA0 (s : State) : Host.Outcome State Fault Refusal := stepOver 0xA0 s

/-- `OP_A2` (R514). -/
def execOpA2 (s : State) : Host.Outcome State Fault Refusal := stepOver 0xA2 s

/-- `OP_A9` (R515). -/
def execOpA9 (s : State) : Host.Outcome State Fault Refusal := stepOver 0xA9 s

/-- `OP_AB` (R516). -/
def execOpAB (s : State) : Host.Outcome State Fault Refusal := stepOver 0xAB s

/-- `OP_C0` (R517). -/
def execOpC0 (s : State) : Host.Outcome State Fault Refusal := stepOver 0xC0 s

/-- `OP_C2` (R518). -/
def execOpC2 (s : State) : Host.Outcome State Fault Refusal := stepOver 0xC2 s

/-- `OP_C9` (R519). -/
def execOpC9 (s : State) : Host.Outcome State Fault Refusal := stepOver 0xC9 s

/-- `OP_CB` (R520). -/
def execOpCB (s : State) : Host.Outcome State Fault Refusal := stepOver 0xCB s

/-- `OP_E0` (R521). -/
def execOpE0 (s : State) : Host.Outcome State Fault Refusal := stepOver 0xE0 s

/-- `OP_E2` (R522). -/
def execOpE2 (s : State) : Host.Outcome State Fault Refusal := stepOver 0xE2 s

/-- `OP_E9` (R523). -/
def execOpE9 (s : State) : Host.Outcome State Fault Refusal := stepOver 0xE9 s

/-- `OP_EB` (R524). -/
def execOpEB (s : State) : Host.Outcome State Fault Refusal := stepOver 0xEB s

end Sys2Proof.Machine
end

