-- ==== Sys2Proof/Machine/Implicit.lean ====
section
/-! DEFINITION. The meanings of the instructions of spec/48_implicit.md: class `Implicit` (R600). Each is the step of spec/40_step.md R91
with its own opcode byte: the bounds check, then the program counter moved past the instruction; nothing else changes
(R95). The rule beside each name is the instruction's own. -/

namespace Sys2Proof.Machine

/-! Class `Implicit` (R600): 0 operand bytes. -/

/-- `OP_00` (R601). -/
def execOp00 (s : State) : Host.Outcome State Fault Refusal := stepOver 0x00 s

/-- `OP_02` (R602). -/
def execOp02 (s : State) : Host.Outcome State Fault Refusal := stepOver 0x02 s

/-- `OP_08` (R603). -/
def execOp08 (s : State) : Host.Outcome State Fault Refusal := stepOver 0x08 s

/-- `OP_0A` (R604). -/
def execOp0A (s : State) : Host.Outcome State Fault Refusal := stepOver 0x0A s

/-- `OP_12` (R605). -/
def execOp12 (s : State) : Host.Outcome State Fault Refusal := stepOver 0x12 s

/-- `OP_18` (R606). -/
def execOp18 (s : State) : Host.Outcome State Fault Refusal := stepOver 0x18 s

/-- `OP_1A` (R607). -/
def execOp1A (s : State) : Host.Outcome State Fault Refusal := stepOver 0x1A s

/-- `OP_1B` (R608). -/
def execOp1B (s : State) : Host.Outcome State Fault Refusal := stepOver 0x1B s

/-- `OP_22` (R609). -/
def execOp22 (s : State) : Host.Outcome State Fault Refusal := stepOver 0x22 s

/-- `OP_28` (R610). -/
def execOp28 (s : State) : Host.Outcome State Fault Refusal := stepOver 0x28 s

/-- `OP_2A` (R611). -/
def execOp2A (s : State) : Host.Outcome State Fault Refusal := stepOver 0x2A s

/-- `OP_32` (R612). -/
def execOp32 (s : State) : Host.Outcome State Fault Refusal := stepOver 0x32 s

/-- `OP_38` (R613). -/
def execOp38 (s : State) : Host.Outcome State Fault Refusal := stepOver 0x38 s

/-- `OP_39` (R614). -/
def execOp39 (s : State) : Host.Outcome State Fault Refusal := stepOver 0x39 s

/-- `OP_3A` (R615). -/
def execOp3A (s : State) : Host.Outcome State Fault Refusal := stepOver 0x3A s

/-- `OP_3B` (R616). -/
def execOp3B (s : State) : Host.Outcome State Fault Refusal := stepOver 0x3B s

/-- `OP_40` (R617). -/
def execOp40 (s : State) : Host.Outcome State Fault Refusal := stepOver 0x40 s

/-- `OP_42` (R618). -/
def execOp42 (s : State) : Host.Outcome State Fault Refusal := stepOver 0x42 s

/-- `OP_48` (R619). -/
def execOp48 (s : State) : Host.Outcome State Fault Refusal := stepOver 0x48 s

/-- `OP_4A` (R620). -/
def execOp4A (s : State) : Host.Outcome State Fault Refusal := stepOver 0x4A s

/-- `OP_52` (R621). -/
def execOp52 (s : State) : Host.Outcome State Fault Refusal := stepOver 0x52 s

/-- `OP_58` (R622). -/
def execOp58 (s : State) : Host.Outcome State Fault Refusal := stepOver 0x58 s

/-- `OP_59` (R623). -/
def execOp59 (s : State) : Host.Outcome State Fault Refusal := stepOver 0x59 s

/-- `OP_5A` (R624). -/
def execOp5A (s : State) : Host.Outcome State Fault Refusal := stepOver 0x5A s

/-- `OP_5B` (R625). -/
def execOp5B (s : State) : Host.Outcome State Fault Refusal := stepOver 0x5B s

/-- `OP_60` (R626). -/
def execOp60 (s : State) : Host.Outcome State Fault Refusal := stepOver 0x60 s

/-- `OP_62` (R627). -/
def execOp62 (s : State) : Host.Outcome State Fault Refusal := stepOver 0x62 s

/-- `OP_68` (R628). -/
def execOp68 (s : State) : Host.Outcome State Fault Refusal := stepOver 0x68 s

/-- `OP_6A` (R629). -/
def execOp6A (s : State) : Host.Outcome State Fault Refusal := stepOver 0x6A s

/-- `OP_72` (R630). -/
def execOp72 (s : State) : Host.Outcome State Fault Refusal := stepOver 0x72 s

/-- `OP_78` (R631). -/
def execOp78 (s : State) : Host.Outcome State Fault Refusal := stepOver 0x78 s

/-- `OP_79` (R632). -/
def execOp79 (s : State) : Host.Outcome State Fault Refusal := stepOver 0x79 s

/-- `OP_7A` (R633). -/
def execOp7A (s : State) : Host.Outcome State Fault Refusal := stepOver 0x7A s

/-- `OP_7B` (R634). -/
def execOp7B (s : State) : Host.Outcome State Fault Refusal := stepOver 0x7B s

/-- `OP_88` (R635). -/
def execOp88 (s : State) : Host.Outcome State Fault Refusal := stepOver 0x88 s

/-- `OP_8A` (R636). -/
def execOp8A (s : State) : Host.Outcome State Fault Refusal := stepOver 0x8A s

/-- `OP_92` (R637). -/
def execOp92 (s : State) : Host.Outcome State Fault Refusal := stepOver 0x92 s

/-- `OP_98` (R638). -/
def execOp98 (s : State) : Host.Outcome State Fault Refusal := stepOver 0x98 s

/-- `OP_99` (R639). -/
def execOp99 (s : State) : Host.Outcome State Fault Refusal := stepOver 0x99 s

/-- `OP_9A` (R640). -/
def execOp9A (s : State) : Host.Outcome State Fault Refusal := stepOver 0x9A s

/-- `OP_9B` (R641). -/
def execOp9B (s : State) : Host.Outcome State Fault Refusal := stepOver 0x9B s

/-- `OP_A8` (R642). -/
def execOpA8 (s : State) : Host.Outcome State Fault Refusal := stepOver 0xA8 s

/-- `OP_AA` (R643). -/
def execOpAA (s : State) : Host.Outcome State Fault Refusal := stepOver 0xAA s

/-- `OP_B2` (R644). -/
def execOpB2 (s : State) : Host.Outcome State Fault Refusal := stepOver 0xB2 s

/-- `OP_B8` (R645). -/
def execOpB8 (s : State) : Host.Outcome State Fault Refusal := stepOver 0xB8 s

/-- `OP_B9` (R646). -/
def execOpB9 (s : State) : Host.Outcome State Fault Refusal := stepOver 0xB9 s

/-- `OP_BA` (R647). -/
def execOpBA (s : State) : Host.Outcome State Fault Refusal := stepOver 0xBA s

/-- `OP_BB` (R648). -/
def execOpBB (s : State) : Host.Outcome State Fault Refusal := stepOver 0xBB s

/-- `OP_C8` (R649). -/
def execOpC8 (s : State) : Host.Outcome State Fault Refusal := stepOver 0xC8 s

/-- `OP_CA` (R650). -/
def execOpCA (s : State) : Host.Outcome State Fault Refusal := stepOver 0xCA s

/-- `OP_D2` (R651). -/
def execOpD2 (s : State) : Host.Outcome State Fault Refusal := stepOver 0xD2 s

/-- `OP_D8` (R652). -/
def execOpD8 (s : State) : Host.Outcome State Fault Refusal := stepOver 0xD8 s

/-- `OP_D9` (R653). -/
def execOpD9 (s : State) : Host.Outcome State Fault Refusal := stepOver 0xD9 s

/-- `OP_DA` (R654). -/
def execOpDA (s : State) : Host.Outcome State Fault Refusal := stepOver 0xDA s

/-- `OP_DB` (R655). -/
def execOpDB (s : State) : Host.Outcome State Fault Refusal := stepOver 0xDB s

/-- `OP_E8` (R656). -/
def execOpE8 (s : State) : Host.Outcome State Fault Refusal := stepOver 0xE8 s

/-- `OP_EA` (R657). -/
def execOpEA (s : State) : Host.Outcome State Fault Refusal := stepOver 0xEA s

/-- `OP_F2` (R658). -/
def execOpF2 (s : State) : Host.Outcome State Fault Refusal := stepOver 0xF2 s

/-- `OP_F8` (R659). -/
def execOpF8 (s : State) : Host.Outcome State Fault Refusal := stepOver 0xF8 s

/-- `OP_F9` (R660). -/
def execOpF9 (s : State) : Host.Outcome State Fault Refusal := stepOver 0xF9 s

/-- `OP_FA` (R661). -/
def execOpFA (s : State) : Host.Outcome State Fault Refusal := stepOver 0xFA s

/-- `OP_FB` (R662). -/
def execOpFB (s : State) : Host.Outcome State Fault Refusal := stepOver 0xFB s

end Sys2Proof.Machine
end

