-- ==== Sys2Proof/Machine/Indirect.lean ====
section
/-! DEFINITION. The meanings of the instructions of spec/45_indirect.md: classes `IndIdxX` (R400), `IndIdxY` (R417), `Ind` (R434). Each is the step of spec/40_step.md R91
with its own opcode byte: the bounds check, then the program counter moved past the instruction; nothing else changes
(R95). The rule beside each name is the instruction's own. -/

namespace Sys2Proof.Machine

/-! Class `IndIdxX` (R400): 1 operand byte. -/

/-- `OP_01` (R401). -/
def execOp01 (s : State) : Host.Outcome State Fault Refusal := stepOver 0x01 s

/-- `OP_03` (R402). -/
def execOp03 (s : State) : Host.Outcome State Fault Refusal := stepOver 0x03 s

/-- `OP_21` (R403). -/
def execOp21 (s : State) : Host.Outcome State Fault Refusal := stepOver 0x21 s

/-- `OP_23` (R404). -/
def execOp23 (s : State) : Host.Outcome State Fault Refusal := stepOver 0x23 s

/-- `OP_41` (R405). -/
def execOp41 (s : State) : Host.Outcome State Fault Refusal := stepOver 0x41 s

/-- `OP_43` (R406). -/
def execOp43 (s : State) : Host.Outcome State Fault Refusal := stepOver 0x43 s

/-- `OP_61` (R407). -/
def execOp61 (s : State) : Host.Outcome State Fault Refusal := stepOver 0x61 s

/-- `OP_63` (R408). -/
def execOp63 (s : State) : Host.Outcome State Fault Refusal := stepOver 0x63 s

/-- `OP_81` (R409). -/
def execOp81 (s : State) : Host.Outcome State Fault Refusal := stepOver 0x81 s

/-- `OP_83` (R410). -/
def execOp83 (s : State) : Host.Outcome State Fault Refusal := stepOver 0x83 s

/-- `OP_A1` (R411). -/
def execOpA1 (s : State) : Host.Outcome State Fault Refusal := stepOver 0xA1 s

/-- `OP_A3` (R412). -/
def execOpA3 (s : State) : Host.Outcome State Fault Refusal := stepOver 0xA3 s

/-- `OP_C1` (R413). -/
def execOpC1 (s : State) : Host.Outcome State Fault Refusal := stepOver 0xC1 s

/-- `OP_C3` (R414). -/
def execOpC3 (s : State) : Host.Outcome State Fault Refusal := stepOver 0xC3 s

/-- `OP_E1` (R415). -/
def execOpE1 (s : State) : Host.Outcome State Fault Refusal := stepOver 0xE1 s

/-- `OP_E3` (R416). -/
def execOpE3 (s : State) : Host.Outcome State Fault Refusal := stepOver 0xE3 s

/-! Class `IndIdxY` (R417): 1 operand byte. -/

/-- `OP_11` (R418). -/
def execOp11 (s : State) : Host.Outcome State Fault Refusal := stepOver 0x11 s

/-- `OP_13` (R419). -/
def execOp13 (s : State) : Host.Outcome State Fault Refusal := stepOver 0x13 s

/-- `OP_31` (R420). -/
def execOp31 (s : State) : Host.Outcome State Fault Refusal := stepOver 0x31 s

/-- `OP_33` (R421). -/
def execOp33 (s : State) : Host.Outcome State Fault Refusal := stepOver 0x33 s

/-- `OP_51` (R422). -/
def execOp51 (s : State) : Host.Outcome State Fault Refusal := stepOver 0x51 s

/-- `OP_53` (R423). -/
def execOp53 (s : State) : Host.Outcome State Fault Refusal := stepOver 0x53 s

/-- `OP_71` (R424). -/
def execOp71 (s : State) : Host.Outcome State Fault Refusal := stepOver 0x71 s

/-- `OP_73` (R425). -/
def execOp73 (s : State) : Host.Outcome State Fault Refusal := stepOver 0x73 s

/-- `OP_91` (R426). -/
def execOp91 (s : State) : Host.Outcome State Fault Refusal := stepOver 0x91 s

/-- `OP_93` (R427). -/
def execOp93 (s : State) : Host.Outcome State Fault Refusal := stepOver 0x93 s

/-- `OP_B1` (R428). -/
def execOpB1 (s : State) : Host.Outcome State Fault Refusal := stepOver 0xB1 s

/-- `OP_B3` (R429). -/
def execOpB3 (s : State) : Host.Outcome State Fault Refusal := stepOver 0xB3 s

/-- `OP_D1` (R430). -/
def execOpD1 (s : State) : Host.Outcome State Fault Refusal := stepOver 0xD1 s

/-- `OP_D3` (R431). -/
def execOpD3 (s : State) : Host.Outcome State Fault Refusal := stepOver 0xD3 s

/-- `OP_F1` (R432). -/
def execOpF1 (s : State) : Host.Outcome State Fault Refusal := stepOver 0xF1 s

/-- `OP_F3` (R433). -/
def execOpF3 (s : State) : Host.Outcome State Fault Refusal := stepOver 0xF3 s

/-! Class `Ind` (R434): 2 operand bytes. -/

/-- `OP_6C` (R435). -/
def execOp6C (s : State) : Host.Outcome State Fault Refusal := stepOver 0x6C s

end Sys2Proof.Machine
end

