-- ==== Sys2Proof/Machine/Relative.lean ====
section
/-! DEFINITION. The meanings of the instructions of spec/47_relative.md: class `Rel` (R550). Each is the step of spec/40_step.md R91
with its own opcode byte: the bounds check, then the program counter moved past the instruction; nothing else changes
(R95). The rule beside each name is the instruction's own. -/

namespace Sys2Proof.Machine

/-! Class `Rel` (R550): 1 operand byte. -/

/-- `OP_10` (R551). -/
def execOp10 (s : State) : Host.Outcome State Fault Refusal := stepOver 0x10 s

/-- `OP_30` (R552). -/
def execOp30 (s : State) : Host.Outcome State Fault Refusal := stepOver 0x30 s

/-- `OP_50` (R553). -/
def execOp50 (s : State) : Host.Outcome State Fault Refusal := stepOver 0x50 s

/-- `OP_70` (R554). -/
def execOp70 (s : State) : Host.Outcome State Fault Refusal := stepOver 0x70 s

/-- `OP_90` (R555). -/
def execOp90 (s : State) : Host.Outcome State Fault Refusal := stepOver 0x90 s

/-- `OP_B0` (R556). -/
def execOpB0 (s : State) : Host.Outcome State Fault Refusal := stepOver 0xB0 s

/-- `OP_D0` (R557). -/
def execOpD0 (s : State) : Host.Outcome State Fault Refusal := stepOver 0xD0 s

/-- `OP_F0` (R558). -/
def execOpF0 (s : State) : Host.Outcome State Fault Refusal := stepOver 0xF0 s

end Sys2Proof.Machine
end

