-- ==== Sys2Proof/Machine/ZeroPage.lean ====
section
/-! DEFINITION. The meanings of the instructions of spec/41_zero_page.md: class `ZeroPage` (R200). Each is the step of spec/40_step.md R91
with its own opcode byte: the bounds check, then the program counter moved past the instruction; nothing else changes
(R95). The rule beside each name is the instruction's own. -/

namespace Sys2Proof.Machine

/-! Class `ZeroPage` (R200): 1 operand byte. -/

/-- `OP_04` (R201). -/
def execOp04 (s : State) : Host.Outcome State Fault Refusal := stepOver 0x04 s

/-- `OP_05` (R202). -/
def execOp05 (s : State) : Host.Outcome State Fault Refusal := stepOver 0x05 s

/-- `OP_06` (R203). -/
def execOp06 (s : State) : Host.Outcome State Fault Refusal := stepOver 0x06 s

/-- `OP_07` (R204). -/
def execOp07 (s : State) : Host.Outcome State Fault Refusal := stepOver 0x07 s

/-- `OP_24` (R205). -/
def execOp24 (s : State) : Host.Outcome State Fault Refusal := stepOver 0x24 s

/-- `OP_25` (R206). -/
def execOp25 (s : State) : Host.Outcome State Fault Refusal := stepOver 0x25 s

/-- `OP_26` (R207). -/
def execOp26 (s : State) : Host.Outcome State Fault Refusal := stepOver 0x26 s

/-- `OP_27` (R208). -/
def execOp27 (s : State) : Host.Outcome State Fault Refusal := stepOver 0x27 s

/-- `OP_44` (R209). -/
def execOp44 (s : State) : Host.Outcome State Fault Refusal := stepOver 0x44 s

/-- `OP_45` (R210). -/
def execOp45 (s : State) : Host.Outcome State Fault Refusal := stepOver 0x45 s

/-- `OP_46` (R211). -/
def execOp46 (s : State) : Host.Outcome State Fault Refusal := stepOver 0x46 s

/-- `OP_47` (R212). -/
def execOp47 (s : State) : Host.Outcome State Fault Refusal := stepOver 0x47 s

/-- `OP_64` (R213). -/
def execOp64 (s : State) : Host.Outcome State Fault Refusal := stepOver 0x64 s

/-- `OP_65` (R214). -/
def execOp65 (s : State) : Host.Outcome State Fault Refusal := stepOver 0x65 s

/-- `OP_66` (R215). -/
def execOp66 (s : State) : Host.Outcome State Fault Refusal := stepOver 0x66 s

/-- `OP_67` (R216). -/
def execOp67 (s : State) : Host.Outcome State Fault Refusal := stepOver 0x67 s

/-- `OP_84` (R217). -/
def execOp84 (s : State) : Host.Outcome State Fault Refusal := stepOver 0x84 s

/-- `OP_85` (R218). -/
def execOp85 (s : State) : Host.Outcome State Fault Refusal := stepOver 0x85 s

/-- `OP_86` (R219). -/
def execOp86 (s : State) : Host.Outcome State Fault Refusal := stepOver 0x86 s

/-- `OP_87` (R220). -/
def execOp87 (s : State) : Host.Outcome State Fault Refusal := stepOver 0x87 s

/-- `OP_A4` (R221). -/
def execOpA4 (s : State) : Host.Outcome State Fault Refusal := stepOver 0xA4 s

/-- `OP_A5` (R222). -/
def execOpA5 (s : State) : Host.Outcome State Fault Refusal := stepOver 0xA5 s

/-- `OP_A6` (R223). -/
def execOpA6 (s : State) : Host.Outcome State Fault Refusal := stepOver 0xA6 s

/-- `OP_A7` (R224). -/
def execOpA7 (s : State) : Host.Outcome State Fault Refusal := stepOver 0xA7 s

/-- `OP_C4` (R225). -/
def execOpC4 (s : State) : Host.Outcome State Fault Refusal := stepOver 0xC4 s

/-- `OP_C5` (R226). -/
def execOpC5 (s : State) : Host.Outcome State Fault Refusal := stepOver 0xC5 s

/-- `OP_C6` (R227). -/
def execOpC6 (s : State) : Host.Outcome State Fault Refusal := stepOver 0xC6 s

/-- `OP_C7` (R228). -/
def execOpC7 (s : State) : Host.Outcome State Fault Refusal := stepOver 0xC7 s

/-- `OP_E4` (R229). -/
def execOpE4 (s : State) : Host.Outcome State Fault Refusal := stepOver 0xE4 s

/-- `OP_E5` (R230). -/
def execOpE5 (s : State) : Host.Outcome State Fault Refusal := stepOver 0xE5 s

/-- `OP_E6` (R231). -/
def execOpE6 (s : State) : Host.Outcome State Fault Refusal := stepOver 0xE6 s

/-- `OP_E7` (R232). -/
def execOpE7 (s : State) : Host.Outcome State Fault Refusal := stepOver 0xE7 s

end Sys2Proof.Machine
end

