-- ==== Sys2Proof/Machine/ZeroPageIndexed.lean ====
section
/-! DEFINITION. The meanings of the instructions of spec/42_zero_page_indexed.md: classes `ZeroPageX` (R233), `ZeroPageY` (R262). Each is the step of spec/40_step.md R91
with its own opcode byte: the bounds check, then the program counter moved past the instruction; nothing else changes
(R95). The rule beside each name is the instruction's own. -/

namespace Sys2Proof.Machine

/-! Class `ZeroPageX` (R233): 1 operand byte. -/

/-- `OP_14` (R234). -/
def execOp14 (s : State) : Host.Outcome State Fault Refusal := stepOver 0x14 s

/-- `OP_15` (R235). -/
def execOp15 (s : State) : Host.Outcome State Fault Refusal := stepOver 0x15 s

/-- `OP_16` (R236). -/
def execOp16 (s : State) : Host.Outcome State Fault Refusal := stepOver 0x16 s

/-- `OP_17` (R237). -/
def execOp17 (s : State) : Host.Outcome State Fault Refusal := stepOver 0x17 s

/-- `OP_34` (R238). -/
def execOp34 (s : State) : Host.Outcome State Fault Refusal := stepOver 0x34 s

/-- `OP_35` (R239). -/
def execOp35 (s : State) : Host.Outcome State Fault Refusal := stepOver 0x35 s

/-- `OP_36` (R240). -/
def execOp36 (s : State) : Host.Outcome State Fault Refusal := stepOver 0x36 s

/-- `OP_37` (R241). -/
def execOp37 (s : State) : Host.Outcome State Fault Refusal := stepOver 0x37 s

/-- `OP_54` (R242). -/
def execOp54 (s : State) : Host.Outcome State Fault Refusal := stepOver 0x54 s

/-- `OP_55` (R243). -/
def execOp55 (s : State) : Host.Outcome State Fault Refusal := stepOver 0x55 s

/-- `OP_56` (R244). -/
def execOp56 (s : State) : Host.Outcome State Fault Refusal := stepOver 0x56 s

/-- `OP_57` (R245). -/
def execOp57 (s : State) : Host.Outcome State Fault Refusal := stepOver 0x57 s

/-- `OP_74` (R246). -/
def execOp74 (s : State) : Host.Outcome State Fault Refusal := stepOver 0x74 s

/-- `OP_75` (R247). -/
def execOp75 (s : State) : Host.Outcome State Fault Refusal := stepOver 0x75 s

/-- `OP_76` (R248). -/
def execOp76 (s : State) : Host.Outcome State Fault Refusal := stepOver 0x76 s

/-- `OP_77` (R249). -/
def execOp77 (s : State) : Host.Outcome State Fault Refusal := stepOver 0x77 s

/-- `OP_94` (R250). -/
def execOp94 (s : State) : Host.Outcome State Fault Refusal := stepOver 0x94 s

/-- `OP_95` (R251). -/
def execOp95 (s : State) : Host.Outcome State Fault Refusal := stepOver 0x95 s

/-- `OP_B4` (R252). -/
def execOpB4 (s : State) : Host.Outcome State Fault Refusal := stepOver 0xB4 s

/-- `OP_B5` (R253). -/
def execOpB5 (s : State) : Host.Outcome State Fault Refusal := stepOver 0xB5 s

/-- `OP_D4` (R254). -/
def execOpD4 (s : State) : Host.Outcome State Fault Refusal := stepOver 0xD4 s

/-- `OP_D5` (R255). -/
def execOpD5 (s : State) : Host.Outcome State Fault Refusal := stepOver 0xD5 s

/-- `OP_D6` (R256). -/
def execOpD6 (s : State) : Host.Outcome State Fault Refusal := stepOver 0xD6 s

/-- `OP_D7` (R257). -/
def execOpD7 (s : State) : Host.Outcome State Fault Refusal := stepOver 0xD7 s

/-- `OP_F4` (R258). -/
def execOpF4 (s : State) : Host.Outcome State Fault Refusal := stepOver 0xF4 s

/-- `OP_F5` (R259). -/
def execOpF5 (s : State) : Host.Outcome State Fault Refusal := stepOver 0xF5 s

/-- `OP_F6` (R260). -/
def execOpF6 (s : State) : Host.Outcome State Fault Refusal := stepOver 0xF6 s

/-- `OP_F7` (R261). -/
def execOpF7 (s : State) : Host.Outcome State Fault Refusal := stepOver 0xF7 s

/-! Class `ZeroPageY` (R262): 1 operand byte. -/

/-- `OP_96` (R263). -/
def execOp96 (s : State) : Host.Outcome State Fault Refusal := stepOver 0x96 s

/-- `OP_97` (R264). -/
def execOp97 (s : State) : Host.Outcome State Fault Refusal := stepOver 0x97 s

/-- `OP_B6` (R265). -/
def execOpB6 (s : State) : Host.Outcome State Fault Refusal := stepOver 0xB6 s

/-- `OP_B7` (R266). -/
def execOpB7 (s : State) : Host.Outcome State Fault Refusal := stepOver 0xB7 s

end Sys2Proof.Machine
end

