-- ==== Sys2Proof/Machine/Dispatch.lean ====
section
/-! DEFINITION. One arm per instruction: each calls that instruction's own meaning (spec/opcode_table.json). -/

namespace Sys2Proof.Machine

def exec (i : Instr) (s : State) : Host.Outcome State Fault Refusal :=
  match i with
  | .op00 => Sys2Proof.Machine.execOp00 s
  | .op01 => Sys2Proof.Machine.execOp01 s
  | .op02 => Sys2Proof.Machine.execOp02 s
  | .op03 => Sys2Proof.Machine.execOp03 s
  | .op04 => Sys2Proof.Machine.execOp04 s
  | .op05 => Sys2Proof.Machine.execOp05 s
  | .op06 => Sys2Proof.Machine.execOp06 s
  | .op07 => Sys2Proof.Machine.execOp07 s
  | .op08 => Sys2Proof.Machine.execOp08 s
  | .op09 => Sys2Proof.Machine.execOp09 s
  | .op0A => Sys2Proof.Machine.execOp0A s
  | .op0B => Sys2Proof.Machine.execOp0B s
  | .op0C => Sys2Proof.Machine.execOp0C s
  | .op0D => Sys2Proof.Machine.execOp0D s
  | .op0E => Sys2Proof.Machine.execOp0E s
  | .op0F => Sys2Proof.Machine.execOp0F s
  | .op10 => Sys2Proof.Machine.execOp10 s
  | .op11 => Sys2Proof.Machine.execOp11 s
  | .op12 => Sys2Proof.Machine.execOp12 s
  | .op13 => Sys2Proof.Machine.execOp13 s
  | .op14 => Sys2Proof.Machine.execOp14 s
  | .op15 => Sys2Proof.Machine.execOp15 s
  | .op16 => Sys2Proof.Machine.execOp16 s
  | .op17 => Sys2Proof.Machine.execOp17 s
  | .op18 => Sys2Proof.Machine.execOp18 s
  | .op19 => Sys2Proof.Machine.execOp19 s
  | .op1A => Sys2Proof.Machine.execOp1A s
  | .op1B => Sys2Proof.Machine.execOp1B s
  | .op1C => Sys2Proof.Machine.execOp1C s
  | .op1D => Sys2Proof.Machine.execOp1D s
  | .op1E => Sys2Proof.Machine.execOp1E s
  | .op1F => Sys2Proof.Machine.execOp1F s
  | .op20 => Sys2Proof.Machine.execOp20 s
  | .op21 => Sys2Proof.Machine.execOp21 s
  | .op22 => Sys2Proof.Machine.execOp22 s
  | .op23 => Sys2Proof.Machine.execOp23 s
  | .op24 => Sys2Proof.Machine.execOp24 s
  | .op25 => Sys2Proof.Machine.execOp25 s
  | .op26 => Sys2Proof.Machine.execOp26 s
  | .op27 => Sys2Proof.Machine.execOp27 s
  | .op28 => Sys2Proof.Machine.execOp28 s
  | .op29 => Sys2Proof.Machine.execOp29 s
  | .op2A => Sys2Proof.Machine.execOp2A s
  | .op2B => Sys2Proof.Machine.execOp2B s
  | .op2C => Sys2Proof.Machine.execOp2C s
  | .op2D => Sys2Proof.Machine.execOp2D s
  | .op2E => Sys2Proof.Machine.execOp2E s
  | .op2F => Sys2Proof.Machine.execOp2F s
  | .op30 => Sys2Proof.Machine.execOp30 s
  | .op31 => Sys2Proof.Machine.execOp31 s
  | .op32 => Sys2Proof.Machine.execOp32 s
  | .op33 => Sys2Proof.Machine.execOp33 s
  | .op34 => Sys2Proof.Machine.execOp34 s
  | .op35 => Sys2Proof.Machine.execOp35 s
  | .op36 => Sys2Proof.Machine.execOp36 s
  | .op37 => Sys2Proof.Machine.execOp37 s
  | .op38 => Sys2Proof.Machine.execOp38 s
  | .op39 => Sys2Proof.Machine.execOp39 s
  | .op3A => Sys2Proof.Machine.execOp3A s
  | .op3B => Sys2Proof.Machine.execOp3B s
  | .op3C => Sys2Proof.Machine.execOp3C s
  | .op3D => Sys2Proof.Machine.execOp3D s
  | .op3E => Sys2Proof.Machine.execOp3E s
  | .op3F => Sys2Proof.Machine.execOp3F s
  | .op40 => Sys2Proof.Machine.execOp40 s
  | .op41 => Sys2Proof.Machine.execOp41 s
  | .op42 => Sys2Proof.Machine.execOp42 s
  | .op43 => Sys2Proof.Machine.execOp43 s
  | .op44 => Sys2Proof.Machine.execOp44 s
  | .op45 => Sys2Proof.Machine.execOp45 s
  | .op46 => Sys2Proof.Machine.execOp46 s
  | .op47 => Sys2Proof.Machine.execOp47 s
  | .op48 => Sys2Proof.Machine.execOp48 s
  | .op49 => Sys2Proof.Machine.execOp49 s
  | .op4A => Sys2Proof.Machine.execOp4A s
  | .op4B => Sys2Proof.Machine.execOp4B s
  | .op4C => Sys2Proof.Machine.execOp4C s
  | .op4D => Sys2Proof.Machine.execOp4D s
  | .op4E => Sys2Proof.Machine.execOp4E s
  | .op4F => Sys2Proof.Machine.execOp4F s
  | .op50 => Sys2Proof.Machine.execOp50 s
  | .op51 => Sys2Proof.Machine.execOp51 s
  | .op52 => Sys2Proof.Machine.execOp52 s
  | .op53 => Sys2Proof.Machine.execOp53 s
  | .op54 => Sys2Proof.Machine.execOp54 s
  | .op55 => Sys2Proof.Machine.execOp55 s
  | .op56 => Sys2Proof.Machine.execOp56 s
  | .op57 => Sys2Proof.Machine.execOp57 s
  | .op58 => Sys2Proof.Machine.execOp58 s
  | .op59 => Sys2Proof.Machine.execOp59 s
  | .op5A => Sys2Proof.Machine.execOp5A s
  | .op5B => Sys2Proof.Machine.execOp5B s
  | .op5C => Sys2Proof.Machine.execOp5C s
  | .op5D => Sys2Proof.Machine.execOp5D s
  | .op5E => Sys2Proof.Machine.execOp5E s
  | .op5F => Sys2Proof.Machine.execOp5F s
  | .op60 => Sys2Proof.Machine.execOp60 s
  | .op61 => Sys2Proof.Machine.execOp61 s
  | .op62 => Sys2Proof.Machine.execOp62 s
  | .op63 => Sys2Proof.Machine.execOp63 s
  | .op64 => Sys2Proof.Machine.execOp64 s
  | .op65 => Sys2Proof.Machine.execOp65 s
  | .op66 => Sys2Proof.Machine.execOp66 s
  | .op67 => Sys2Proof.Machine.execOp67 s
  | .op68 => Sys2Proof.Machine.execOp68 s
  | .op69 => Sys2Proof.Machine.execOp69 s
  | .op6A => Sys2Proof.Machine.execOp6A s
  | .op6B => Sys2Proof.Machine.execOp6B s
  | .op6C => Sys2Proof.Machine.execOp6C s
  | .op6D => Sys2Proof.Machine.execOp6D s
  | .op6E => Sys2Proof.Machine.execOp6E s
  | .op6F => Sys2Proof.Machine.execOp6F s
  | .op70 => Sys2Proof.Machine.execOp70 s
  | .op71 => Sys2Proof.Machine.execOp71 s
  | .op72 => Sys2Proof.Machine.execOp72 s
  | .op73 => Sys2Proof.Machine.execOp73 s
  | .op74 => Sys2Proof.Machine.execOp74 s
  | .op75 => Sys2Proof.Machine.execOp75 s
  | .op76 => Sys2Proof.Machine.execOp76 s
  | .op77 => Sys2Proof.Machine.execOp77 s
  | .op78 => Sys2Proof.Machine.execOp78 s
  | .op79 => Sys2Proof.Machine.execOp79 s
  | .op7A => Sys2Proof.Machine.execOp7A s
  | .op7B => Sys2Proof.Machine.execOp7B s
  | .op7C => Sys2Proof.Machine.execOp7C s
  | .op7D => Sys2Proof.Machine.execOp7D s
  | .op7E => Sys2Proof.Machine.execOp7E s
  | .op7F => Sys2Proof.Machine.execOp7F s
  | .op80 => Sys2Proof.Machine.execOp80 s
  | .op81 => Sys2Proof.Machine.execOp81 s
  | .op82 => Sys2Proof.Machine.execOp82 s
  | .op83 => Sys2Proof.Machine.execOp83 s
  | .op84 => Sys2Proof.Machine.execOp84 s
  | .op85 => Sys2Proof.Machine.execOp85 s
  | .op86 => Sys2Proof.Machine.execOp86 s
  | .op87 => Sys2Proof.Machine.execOp87 s
  | .op88 => Sys2Proof.Machine.execOp88 s
  | .op89 => Sys2Proof.Machine.execOp89 s
  | .op8A => Sys2Proof.Machine.execOp8A s
  | .op8B => Sys2Proof.Machine.execOp8B s
  | .op8C => Sys2Proof.Machine.execOp8C s
  | .op8D => Sys2Proof.Machine.execOp8D s
  | .op8E => Sys2Proof.Machine.execOp8E s
  | .op8F => Sys2Proof.Machine.execOp8F s
  | .op90 => Sys2Proof.Machine.execOp90 s
  | .op91 => Sys2Proof.Machine.execOp91 s
  | .op92 => Sys2Proof.Machine.execOp92 s
  | .op93 => Sys2Proof.Machine.execOp93 s
  | .op94 => Sys2Proof.Machine.execOp94 s
  | .op95 => Sys2Proof.Machine.execOp95 s
  | .op96 => Sys2Proof.Machine.execOp96 s
  | .op97 => Sys2Proof.Machine.execOp97 s
  | .op98 => Sys2Proof.Machine.execOp98 s
  | .op99 => Sys2Proof.Machine.execOp99 s
  | .op9A => Sys2Proof.Machine.execOp9A s
  | .op9B => Sys2Proof.Machine.execOp9B s
  | .op9C => Sys2Proof.Machine.execOp9C s
  | .op9D => Sys2Proof.Machine.execOp9D s
  | .op9E => Sys2Proof.Machine.execOp9E s
  | .op9F => Sys2Proof.Machine.execOp9F s
  | .opA0 => Sys2Proof.Machine.execOpA0 s
  | .opA1 => Sys2Proof.Machine.execOpA1 s
  | .opA2 => Sys2Proof.Machine.execOpA2 s
  | .opA3 => Sys2Proof.Machine.execOpA3 s
  | .opA4 => Sys2Proof.Machine.execOpA4 s
  | .opA5 => Sys2Proof.Machine.execOpA5 s
  | .opA6 => Sys2Proof.Machine.execOpA6 s
  | .opA7 => Sys2Proof.Machine.execOpA7 s
  | .opA8 => Sys2Proof.Machine.execOpA8 s
  | .opA9 => Sys2Proof.Machine.execOpA9 s
  | .opAA => Sys2Proof.Machine.execOpAA s
  | .opAB => Sys2Proof.Machine.execOpAB s
  | .opAC => Sys2Proof.Machine.execOpAC s
  | .opAD => Sys2Proof.Machine.execOpAD s
  | .opAE => Sys2Proof.Machine.execOpAE s
  | .opAF => Sys2Proof.Machine.execOpAF s
  | .opB0 => Sys2Proof.Machine.execOpB0 s
  | .opB1 => Sys2Proof.Machine.execOpB1 s
  | .opB2 => Sys2Proof.Machine.execOpB2 s
  | .opB3 => Sys2Proof.Machine.execOpB3 s
  | .opB4 => Sys2Proof.Machine.execOpB4 s
  | .opB5 => Sys2Proof.Machine.execOpB5 s
  | .opB6 => Sys2Proof.Machine.execOpB6 s
  | .opB7 => Sys2Proof.Machine.execOpB7 s
  | .opB8 => Sys2Proof.Machine.execOpB8 s
  | .opB9 => Sys2Proof.Machine.execOpB9 s
  | .opBA => Sys2Proof.Machine.execOpBA s
  | .opBB => Sys2Proof.Machine.execOpBB s
  | .opBC => Sys2Proof.Machine.execOpBC s
  | .opBD => Sys2Proof.Machine.execOpBD s
  | .opBE => Sys2Proof.Machine.execOpBE s
  | .opBF => Sys2Proof.Machine.execOpBF s
  | .opC0 => Sys2Proof.Machine.execOpC0 s
  | .opC1 => Sys2Proof.Machine.execOpC1 s
  | .opC2 => Sys2Proof.Machine.execOpC2 s
  | .opC3 => Sys2Proof.Machine.execOpC3 s
  | .opC4 => Sys2Proof.Machine.execOpC4 s
  | .opC5 => Sys2Proof.Machine.execOpC5 s
  | .opC6 => Sys2Proof.Machine.execOpC6 s
  | .opC7 => Sys2Proof.Machine.execOpC7 s
  | .opC8 => Sys2Proof.Machine.execOpC8 s
  | .opC9 => Sys2Proof.Machine.execOpC9 s
  | .opCA => Sys2Proof.Machine.execOpCA s
  | .opCB => Sys2Proof.Machine.execOpCB s
  | .opCC => Sys2Proof.Machine.execOpCC s
  | .opCD => Sys2Proof.Machine.execOpCD s
  | .opCE => Sys2Proof.Machine.execOpCE s
  | .opCF => Sys2Proof.Machine.execOpCF s
  | .opD0 => Sys2Proof.Machine.execOpD0 s
  | .opD1 => Sys2Proof.Machine.execOpD1 s
  | .opD2 => Sys2Proof.Machine.execOpD2 s
  | .opD3 => Sys2Proof.Machine.execOpD3 s
  | .opD4 => Sys2Proof.Machine.execOpD4 s
  | .opD5 => Sys2Proof.Machine.execOpD5 s
  | .opD6 => Sys2Proof.Machine.execOpD6 s
  | .opD7 => Sys2Proof.Machine.execOpD7 s
  | .opD8 => Sys2Proof.Machine.execOpD8 s
  | .opD9 => Sys2Proof.Machine.execOpD9 s
  | .opDA => Sys2Proof.Machine.execOpDA s
  | .opDB => Sys2Proof.Machine.execOpDB s
  | .opDC => Sys2Proof.Machine.execOpDC s
  | .opDD => Sys2Proof.Machine.execOpDD s
  | .opDE => Sys2Proof.Machine.execOpDE s
  | .opDF => Sys2Proof.Machine.execOpDF s
  | .opE0 => Sys2Proof.Machine.execOpE0 s
  | .opE1 => Sys2Proof.Machine.execOpE1 s
  | .opE2 => Sys2Proof.Machine.execOpE2 s
  | .opE3 => Sys2Proof.Machine.execOpE3 s
  | .opE4 => Sys2Proof.Machine.execOpE4 s
  | .opE5 => Sys2Proof.Machine.execOpE5 s
  | .opE6 => Sys2Proof.Machine.execOpE6 s
  | .opE7 => Sys2Proof.Machine.execOpE7 s
  | .opE8 => Sys2Proof.Machine.execOpE8 s
  | .opE9 => Sys2Proof.Machine.execOpE9 s
  | .opEA => Sys2Proof.Machine.execOpEA s
  | .opEB => Sys2Proof.Machine.execOpEB s
  | .opEC => Sys2Proof.Machine.execOpEC s
  | .opED => Sys2Proof.Machine.execOpED s
  | .opEE => Sys2Proof.Machine.execOpEE s
  | .opEF => Sys2Proof.Machine.execOpEF s
  | .opF0 => Sys2Proof.Machine.execOpF0 s
  | .opF1 => Sys2Proof.Machine.execOpF1 s
  | .opF2 => Sys2Proof.Machine.execOpF2 s
  | .opF3 => Sys2Proof.Machine.execOpF3 s
  | .opF4 => Sys2Proof.Machine.execOpF4 s
  | .opF5 => Sys2Proof.Machine.execOpF5 s
  | .opF6 => Sys2Proof.Machine.execOpF6 s
  | .opF7 => Sys2Proof.Machine.execOpF7 s
  | .opF8 => Sys2Proof.Machine.execOpF8 s
  | .opF9 => Sys2Proof.Machine.execOpF9 s
  | .opFA => Sys2Proof.Machine.execOpFA s
  | .opFB => Sys2Proof.Machine.execOpFB s
  | .opFC => Sys2Proof.Machine.execOpFC s
  | .opFD => Sys2Proof.Machine.execOpFD s
  | .opFE => Sys2Proof.Machine.execOpFE s
  | .opFF => Sys2Proof.Machine.execOpFF s

end Sys2Proof.Machine
end

