-- ==== Sys2Proof/Machine/Step.lean ====
section
/-! DEFINITION. One step of the `InstructionStepper` (spec/40_step.md R91) and the way a host places the next
instruction. -/

namespace Sys2Proof.Machine

/-- `step` (40_step.md R91): read the opcode byte at the program counter, raise `OutOfBounds` when it lies outside the
view, else run its instruction. -/
def step (s : State) : Host.Outcome State Fault Refusal :=
  match fetch s with
  | none => raise .outOfBounds
  | some op => exec (decodeOpcode op) s

/-- `s` with the instruction of a table word placed at the program counter, the view made long enough to hold it. It
stands for the driver's supplying such a view (70_reset_and_hazards.md R133, log entry 10). -/
def State.withFetchWord (s : State) (nbits w : Nat) : State :=
  { s with mem := (s.mem.cover (s.regs.pc.toNat + 3)).placeBytes s.regs.pc.toNat (tableBytes nbits w) }

end Sys2Proof.Machine
end

