-- ==== Sys2Proof/Machine/Driver.lean ====
section
/-! DEFINITION. The block's interface to its driver (spec/40_step.md R100, R101): the operations beside `step`, and the
answer to each request. The driver acts between steps only (spec/20_memory.md R42). -/

namespace Sys2Proof.Machine

/-- `reset` (70_reset_and_hazards.md R130, R131): the six registers are zeroed. The instance's constants and the view
stay, and no memory is read. -/
def resetOp (s : State) : State := { s with regs := Registers.zero }

/-- The run-loop and instruction-execution surface (60_exceptions.md R115): every call is answered `NotImplemented`, and
it never falls back to `step`. -/
def runRequest (_ : State) : Host.Outcome State Fault Refusal := .refused .notImplemented

/-- The driver hands over another memory view (20_memory.md R41); more than 65536 bytes are refused (R30, log
entry 17). -/
def supplyView (bytes : List Byte) (s : State) : Host.Outcome State Fault Refusal :=
  match Memory.ofBytes bytes with
  | some m => .next { s with mem := m }
  | none => .refused .viewTooLong

/-- What the driver may ask for (40_step.md R100, R101). There is no request that loads a register (10_state.md R17). -/
inductive Request where
  | classify (op : Byte)         -- port `cls_op`
  | operandSize (m : AddrMode)   -- port `siz_mode`
  | supplyView (bytes : List Byte)
  | step                         -- port `step_req`
  | reset                        -- port `reset`
  | run                          -- port `run_req`
  deriving DecidableEq, Repr

/-- What the block answers (40_step.md R100). A step is answered `ok` (port `step_ok`) or `failed .outOfBounds` (port
`step_oob`); port `not_impl` is `refused .notImplemented`. -/
inductive Reply where
  | mode (m : AddrMode)   -- port `cls_mode`
  | size (n : Nat)        -- port `siz_n`
  | ok
  | failed (f : Fault)
  | refused (r : Refusal)
  deriving DecidableEq, Repr

/-- The answer to an operation's outcome, and the state after it: on a condition it is the state before
(60_exceptions.md R112, R113). -/
def settleOutcome (s : State) : Host.Outcome State Fault Refusal → Reply × State
  | .next t => (.ok, t)
  | .fault f => (.failed f, s)
  | .refused r => (.refused r, s)

/-- One transaction of the block (40_step.md R100, R101). -/
def serve (r : Request) (s : State) : Reply × State :=
  match r with
  | .classify op => (.mode (classify op), s)
  | .operandSize m => (.size (operandSize m), s)
  | .supplyView bytes => settleOutcome s (supplyView bytes s)
  | .step => settleOutcome s (step s)
  | .reset => (.ok, resetOp s)
  | .run => settleOutcome s (runRequest s)

/-- The state after a sequence of transactions, each complete before the next starts (20_memory.md R42). -/
def serveAll : List Request → State → State
  | [], s => s
  | r :: rs, s => serveAll rs (serve r s).2

end Sys2Proof.Machine
end

