-- ==== Sys2Proof/Safety.lean ====
section
/-! DEFINITION. What counts as a safe step, and the terms the statements are written in. -/

namespace Sys2Proof.Machine

/-- The view holds the opcode byte at the program counter and `n` operand bytes after it (spec/20_memory.md R33). -/
abbrev State.covers (s : State) (n : Nat) : Prop := s.regs.pc.toNat + n < s.mem.len.val

/-- The new program counter after `n` operand bytes fits 16 bits, or the instance wraps it (spec/40_step.md R96). -/
abbrev State.roomAfter (s : State) (n : Nat) : Prop :=
  s.regs.pc.toNat + n + 1 < 65536 ∨ s.cfg.pcOverflow = .wrap

/-- `s` with the program counter `n + 1` further, its low 16 bits kept, and nothing else changed. -/
abbrev State.movedPast (s : State) (n : Nat) : State :=
  { cfg := s.cfg, mem := s.mem,
    regs := { a := s.regs.a, x := s.regs.x, y := s.regs.y, sp := s.regs.sp, p := s.regs.p,
              pc := BitVec.ofNat 16 (s.regs.pc.toNat + n + 1) } }

/-- A step from `s` succeeds (spec/40_step.md R91, R93, R96). -/
def State.stepSafe (s : State) : Prop :=
  ∃ op, s.mem.read s.regs.pc.toNat = some op ∧
    s.covers (operandSize (classify op)) ∧ s.roomAfter (operandSize (classify op))

/-- The whole meaning of an instruction with `n` operand bytes, as every rule of the family files gives it: with all its
bytes inside the view it completes and only the program counter moves, by `n + 1`; otherwise it raises `OutOfBounds`.
The last clause is the instance with `PC_OVERFLOW = fault` (spec/40_step.md R96). -/
def StepsOverOperands (i : Instr) (n : Nat) : Prop :=
  ∀ s : State,
    (s.covers n → s.roomAfter n → exec i s = .next (s.movedPast n)) ∧
    (s.mem.len.val ≤ s.regs.pc.toNat + n → exec i s = .fault .outOfBounds) ∧
    (s.regs.pc.toNat + n + 1 = 65536 → s.cfg.pcOverflow = .fault → exec i s = .fault .outOfBounds)

/-- What holds of every state a driver can bring about: the view is canonical, and the five registers no operation but
reset writes are zero (spec/10_state.md R17, R18; spec/92_eei_decisions.md D21). -/
def State.Inv (s : State) : Prop :=
  s.mem.wf = true ∧ s.regs.a = 0 ∧ s.regs.x = 0 ∧ s.regs.y = 0 ∧ s.regs.sp = 0 ∧ s.regs.p = 0

end Sys2Proof.Machine
end

