-- ==== Sys2Proof/Certificates/Slice0/Obligations.lean ====
section
/-! DEFINITION. The statements about the model, each written from the rules of spec/ its docstring names. -/

section
open Sys2Proof Sys2Proof.Machine

/-- Reset values (10_state.md R18, 70_reset_and_hazards.md R130). The values of `cfg` and `mem` in `State.reset`
itself are log entries 2 to 5 and are not claimed here. -/
def Obligations.ResetZeroesEveryRegister : Prop :=
  State.reset.regs = { a := 0x00, x := 0x00, y := 0x00, pc := 0x0000, sp := 0x00, p := 0x00 } ∧
  (∀ (c : Config) (v : Memory), State.create c v =
    { cfg := c, mem := v, regs := { a := 0x00, x := 0x00, y := 0x00, pc := 0x0000, sp := 0x00, p := 0x00 } }) ∧
  (∀ s : State, resetOp s =
    { cfg := s.cfg, mem := s.mem,
      regs := { a := 0x00, x := 0x00, y := 0x00, pc := 0x0000, sp := 0x00, p := 0x00 } })

/-- The two bit-fields of the opcode (30_encoding.md R51). -/
def Obligations.OpcodeIsTheTwoFields : Prop :=
  ∀ op : Byte, (hField op).toNat = op.toNat / 32 ∧ (lField op).toNat = op.toNat % 32 ∧
    op.toNat = 32 * (hField op).toNat + (lField op).toNat

/-- The ordered tests (30_encoding.md R53), with every slice of R52 written as a quotient. -/
def Obligations.ClassifierAppliesTheTestsInOrder : Prop :=
  ∀ op : Byte, classify op =
    let h := op.toNat / 32
    let l := op.toNat % 32
    let lm := l - 2 * (l / 2 % 2)
    if op = 0x6C then .ind
    else if l / 4 = 0b001 then .zeroPage
    else if h / 2 = 0b10 ∧ l / 2 = 0b1011 then .zeroPageY
    else if l / 4 = 0b101 then .zeroPageX
    else if l / 4 = 0b011 ∨ op = 0x20 then .abs
    else if (h / 4 ≠ 0 ∧ lm = 0b00000) ∨ lm = 0b01001 then .imm
    else if l = 0b10000 then .rel
    else if lm = 0b00001 then .indIdxX
    else if lm = 0b10001 then .indIdxY
    else if op = 0x19 ∨ (h / 2 = 0b10 ∧ l / 2 = 0b1111) then .absIdxY
    else if l / 4 = 0b111 then .absIdxX
    else .implicit

/-- The tests one by one (30_encoding.md R55, R56, R57, R59 to R62, R64, R65). -/
def Obligations.TestsMatchAndClaimTheListedOpcodes : Prop :=
  (∀ op : Byte, test2 op = true ↔ op &&& 0x1C#8 = 0x04#8) ∧
  (∀ op : Byte, classify op = .zeroPage ↔ op ∈
      [0x04#8, 0x05#8, 0x06#8, 0x07#8, 0x24#8, 0x25#8, 0x26#8, 0x27#8, 0x44#8, 0x45#8, 0x46#8, 0x47#8, 0x64#8,
       0x65#8, 0x66#8, 0x67#8, 0x84#8, 0x85#8, 0x86#8, 0x87#8, 0xA4#8, 0xA5#8, 0xA6#8, 0xA7#8, 0xC4#8, 0xC5#8,
       0xC6#8, 0xC7#8, 0xE4#8, 0xE5#8, 0xE6#8, 0xE7#8]) ∧
  (∀ op : Byte, classify op = .zeroPage ↔ test2 op = true) ∧
  (∀ op : Byte, test3 op = true ↔ op &&& 0xDE#8 = 0x96#8) ∧
  (∀ op : Byte, classify op = .zeroPageY ↔ op ∈
      [0x96#8, 0x97#8, 0xB6#8, 0xB7#8]) ∧
  (∀ op : Byte, classify op = .zeroPageY ↔ test3 op = true) ∧
  (∀ op : Byte, test3 op = true → test4 op = true) ∧
  (∀ op : Byte, test4 op = true ↔ op &&& 0x1C#8 = 0x14#8) ∧
  (∀ op : Byte, classify op = .zeroPageX ↔ op ∈
      [0x14#8, 0x15#8, 0x16#8, 0x17#8, 0x34#8, 0x35#8, 0x36#8, 0x37#8, 0x54#8, 0x55#8, 0x56#8, 0x57#8, 0x74#8,
       0x75#8, 0x76#8, 0x77#8, 0x94#8, 0x95#8, 0xB4#8, 0xB5#8, 0xD4#8, 0xD5#8, 0xD6#8, 0xD7#8, 0xF4#8, 0xF5#8,
       0xF6#8, 0xF7#8]) ∧
  (∀ op : Byte, classify op = .zeroPageX ↔ test4 op = true ∧ test3 op = false) ∧
  ((List.range 256).filter fun k => test4 (BitVec.ofNat 8 k)).length = 32 ∧
  (∀ op : Byte, test6 op = true ↔ op &&& 0x9D#8 = 0x80#8 ∨ op &&& 0x1D#8 = 0x09#8) ∧
  (∀ op : Byte, classify op = .imm ↔ op ∈
      [0x09#8, 0x0B#8, 0x29#8, 0x2B#8, 0x49#8, 0x4B#8, 0x69#8, 0x6B#8, 0x80#8, 0x82#8, 0x89#8, 0x8B#8, 0xA0#8,
       0xA2#8, 0xA9#8, 0xAB#8, 0xC0#8, 0xC2#8, 0xC9#8, 0xCB#8, 0xE0#8, 0xE2#8, 0xE9#8, 0xEB#8]) ∧
  (∀ op : Byte, classify op = .imm ↔ test6 op = true) ∧
  (∀ op : Byte, op &&& 0x9D#8 = 0x80#8 ↔ op ∈
      [0x80#8, 0x82#8, 0xA0#8, 0xA2#8, 0xC0#8, 0xC2#8, 0xE0#8, 0xE2#8]) ∧
  (∀ op : Byte, op &&& 0x1D#8 = 0x09#8 ↔ op ∈
      [0x09#8, 0x0B#8, 0x29#8, 0x2B#8, 0x49#8, 0x4B#8, 0x69#8, 0x6B#8, 0x89#8, 0x8B#8, 0xA9#8, 0xAB#8, 0xC9#8,
       0xCB#8, 0xE9#8, 0xEB#8]) ∧
  (∀ op : Byte, test7 op = true ↔ op &&& 0x1F#8 = 0x10#8) ∧
  (∀ op : Byte, classify op = .rel ↔ op ∈
      [0x10#8, 0x30#8, 0x50#8, 0x70#8, 0x90#8, 0xB0#8, 0xD0#8, 0xF0#8]) ∧
  (∀ op : Byte, classify op = .rel ↔ test7 op = true) ∧
  (∀ op : Byte, test8 op = true ↔ op &&& 0x1D#8 = 0x01#8) ∧
  (∀ op : Byte, classify op = .indIdxX ↔ op ∈
      [0x01#8, 0x03#8, 0x21#8, 0x23#8, 0x41#8, 0x43#8, 0x61#8, 0x63#8, 0x81#8, 0x83#8, 0xA1#8, 0xA3#8, 0xC1#8,
       0xC3#8, 0xE1#8, 0xE3#8]) ∧
  (∀ op : Byte, classify op = .indIdxX ↔ test8 op = true) ∧
  (∀ op : Byte, test9 op = true ↔ op &&& 0x1D#8 = 0x11#8) ∧
  (∀ op : Byte, classify op = .indIdxY ↔ op ∈
      [0x11#8, 0x13#8, 0x31#8, 0x33#8, 0x51#8, 0x53#8, 0x71#8, 0x73#8, 0x91#8, 0x93#8, 0xB1#8, 0xB3#8, 0xD1#8,
       0xD3#8, 0xF1#8, 0xF3#8]) ∧
  (∀ op : Byte, classify op = .indIdxY ↔ test9 op = true) ∧
  (∀ op : Byte, test11 op = true ↔ op &&& 0x1C#8 = 0x1C#8) ∧
  (∀ op : Byte, classify op = .absIdxX ↔ op ∈
      [0x1C#8, 0x1D#8, 0x1E#8, 0x1F#8, 0x3C#8, 0x3D#8, 0x3E#8, 0x3F#8, 0x5C#8, 0x5D#8, 0x5E#8, 0x5F#8, 0x7C#8,
       0x7D#8, 0x7E#8, 0x7F#8, 0x9C#8, 0x9D#8, 0xBC#8, 0xBD#8, 0xDC#8, 0xDD#8, 0xDE#8, 0xDF#8, 0xFC#8, 0xFD#8,
       0xFE#8, 0xFF#8]) ∧
  (∀ op : Byte, classify op = .absIdxX ↔ test11 op = true ∧ test10 op = false) ∧
  ((List.range 256).filter fun k => test11 (BitVec.ofNat 8 k)).length = 32 ∧
  (∀ op : Byte, classify op = .implicit ↔ op ∈
      [0x00#8, 0x02#8, 0x08#8, 0x0A#8, 0x12#8, 0x18#8, 0x1A#8, 0x1B#8, 0x22#8, 0x28#8, 0x2A#8, 0x32#8, 0x38#8,
       0x39#8, 0x3A#8, 0x3B#8, 0x40#8, 0x42#8, 0x48#8, 0x4A#8, 0x52#8, 0x58#8, 0x59#8, 0x5A#8, 0x5B#8, 0x60#8,
       0x62#8, 0x68#8, 0x6A#8, 0x72#8, 0x78#8, 0x79#8, 0x7A#8, 0x7B#8, 0x88#8, 0x8A#8, 0x92#8, 0x98#8, 0x99#8,
       0x9A#8, 0x9B#8, 0xA8#8, 0xAA#8, 0xB2#8, 0xB8#8, 0xB9#8, 0xBA#8, 0xBB#8, 0xC8#8, 0xCA#8, 0xD2#8, 0xD8#8,
       0xD9#8, 0xDA#8, 0xDB#8, 0xE8#8, 0xEA#8, 0xF2#8, 0xF8#8, 0xF9#8, 0xFA#8, 0xFB#8]) ∧
  (∀ op : Byte, classify op = .implicit ↔
    [test1 op, test2 op, test3 op, test4 op, test5 op, test6 op, test7 op, test8 op, test9 op, test10 op,
      test11 op] = List.replicate 11 false)

/-- The three tests with a literal (30_encoding.md R54, R58, R63). -/
def Obligations.CarveOutOpcodesHaveTheirOwnTerms : Prop :=
  (∀ op : Byte, test1 op = true ↔ op = 0x6C#8) ∧
  (∀ op : Byte, classify op = .ind ↔ op = 0x6C#8) ∧
  [test2 0x6C, test3 0x6C, test4 0x6C, test5 0x6C] = [false, false, false, true] ∧
  (∀ op : Byte, test5 op = true ↔ op &&& 0x1C#8 = 0x0C#8 ∨ op = 0x20#8) ∧
  (∀ op : Byte, classify op = .abs ↔ op ∈
      [0x0C#8, 0x0D#8, 0x0E#8, 0x0F#8, 0x20#8, 0x2C#8, 0x2D#8, 0x2E#8, 0x2F#8, 0x4C#8, 0x4D#8, 0x4E#8, 0x4F#8,
       0x6D#8, 0x6E#8, 0x6F#8, 0x8C#8, 0x8D#8, 0x8E#8, 0x8F#8, 0xAC#8, 0xAD#8, 0xAE#8, 0xAF#8, 0xCC#8, 0xCD#8,
       0xCE#8, 0xCF#8, 0xEC#8, 0xED#8, 0xEE#8, 0xEF#8]) ∧
  ((List.range 256).filter fun k => test5 (BitVec.ofNat 8 k)).length = 33 ∧
  (0x20#8 &&& 0x1C#8 ≠ 0x0C#8 ∧
    [test1 0x20, test2 0x20, test3 0x20, test4 0x20, test6 0x20, test7 0x20, test8 0x20, test9 0x20, test10 0x20,
      test11 0x20] = List.replicate 10 false) ∧
  (∀ op : Byte, test10 op = true ↔ op = 0x19#8 ∨ op &&& 0xDE#8 = 0x9E#8) ∧
  (∀ op : Byte, classify op = .absIdxY ↔ op ∈
      [0x19#8, 0x9E#8, 0x9F#8, 0xBE#8, 0xBF#8]) ∧
  (∀ op : Byte, classify op = .absIdxY ↔ test10 op = true) ∧
  [test11 0x19, test11 0x9E, test11 0x9F, test11 0xBE, test11 0xBF] = [false, true, true, true, true] ∧
  (∀ op ∈ [0x39#8, 0x59#8, 0x79#8, 0x99#8, 0xB9#8, 0xD9#8, 0xF9#8],
    lField op = 0x19#5 ∧ classify op = .implicit) ∧
  (∀ op : Byte, lField op = 0x19#5 → op ≠ 0x19#8 → classify op = .implicit)

/-- The overlaps that make the order matter (30_encoding.md R78, the spec's own enumeration). -/
def Obligations.ExactlyNineOpcodesMatchTwoTests : Prop :=
  (∀ op : Byte,
    let n := [test1 op, test2 op, test3 op, test4 op, test5 op, test6 op, test7 op, test8 op, test9 op, test10 op,
      test11 op].count true
    n ≤ 2 ∧ (n = 2 ↔ op ∈
      [0x6C#8, 0x96#8, 0x97#8, 0xB6#8, 0xB7#8, 0x9E#8, 0x9F#8, 0xBE#8, 0xBF#8])) ∧
  (test1 0x6C = true ∧ test5 0x6C = true) ∧
  (∀ op ∈ [0x96#8, 0x97#8, 0xB6#8, 0xB7#8], test3 op = true ∧ test4 op = true) ∧
  (∀ op ∈ [0x9E#8, 0x9F#8, 0xBE#8, 0xBF#8], test10 op = true ∧ test11 op = true)

/-- Class sizes (30_encoding.md R66). -/
def Obligations.ClassSizesAreTheTwelveCounts : Prop :=
  AddrMode.all.map (fun m => ((List.range 256).filter fun k => classify (BitVec.ofNat 8 k) = m).length) =
    [32, 28, 4, 32, 28, 5, 16, 16, 1, 24, 8, 62] ∧
  [32, 28, 4, 32, 28, 5, 16, 16, 1, 24, 8, 62].sum = 256

/-- The size resolver (30_encoding.md R68), over all twelve tags. -/
def Obligations.OperandSizeIsTheTable : Prop :=
  AddrMode.all.map (fun m => (m, operandSize m, m.length, m.format)) =
    [(.zeroPage, 1, 2, .f1), (.zeroPageX, 1, 2, .f1), (.zeroPageY, 1, 2, .f1), (.abs, 2, 3, .f2),
     (.absIdxX, 2, 3, .f2), (.absIdxY, 2, 3, .f2), (.indIdxX, 1, 2, .f1), (.indIdxY, 1, 2, .f1),
     (.ind, 2, 3, .f2), (.imm, 1, 2, .f1), (.rel, 1, 2, .f1), (.implicit, 0, 1, .f0)] ∧
  (∀ m : AddrMode, m ∈ AddrMode.all)

/-- The tag codes (30_encoding.md R75; the numbers are the spec's decision D7, log entry 16). -/
def Obligations.TagCodesAreThePositions : Prop :=
  AddrMode.all.map AddrMode.code = (List.range 12).map (BitVec.ofNat 4) ∧
  (∀ m m' : AddrMode, m.code = m'.code → m = m') ∧ (∀ m : AddrMode, m.code.toNat < 12)

/-- Sanity of the decoder on words written out from the encodings (95_test_vectors.md L-1 and one word a class). -/
def Obligations.WrittenOutWordsDecode : Prop :=
  [0b00000101, 0b00010100, 0b10110110, 0b00100000, 0b00011100, 0b00011001, 0b00000001,
    0b11110001, 0b01101100, 0b01001011, 0b11010000, 0b11101010, 0b10111001].map (decodeTableWord 8) =
    [some .op05, some .op14, some .opB6, some .op20, some .op1C, some .op19, some .op01,
     some .opF1, some .op6C, some .op4B, some .opD0, some .opEA, some .opB9]

/-- Decode and encode agree on all 256 instructions with every operand (30_encoding.md R50, R70, R71, R76). -/
def Obligations.DecodeReadsBackEveryEncoding : Prop :=
  ∀ (x : Insn) (rest : List Byte), x.wellFormed = true → decode (encode x ++ rest) = .ok (x, rest)

/-- The other direction of the round trip: every byte sequence has one meaning (30_encoding.md R71). -/
def Obligations.DecodedInstructionsReencode : Prop :=
  ∀ (bs : List Byte) (x : Insn) (rest : List Byte),
    decode bs = .ok (x, rest) → x.wellFormed = true ∧ encode x ++ rest = bs

/-- The rejections `noOpcode` and `missingOperands` of a sequence too short are the model's choice (log entry 22):
the spec's block has no such function. That no opcode value is a reason follows from 30_encoding.md R72. -/
def Obligations.DecodeRefusesOnlyShortSequences : Prop :=
  (∀ bs : List Byte, decode bs = .error .noOpcode ↔ bs = []) ∧
  (∀ (op : Byte) (rest : List Byte),
    decode (op :: rest) = .error .missingOperands ↔ rest.length < operandSize (classify op)) ∧
  (∀ (op : Byte) (rest : List Byte), operandSize (classify op) ≤ rest.length →
    ∃ x, decode (op :: rest) = .ok (x, rest.drop (operandSize (classify op))) ∧ x.instr.opcode = op)

/-- "A byte sequence and a start address determine the listing" (30_encoding.md R76), and R137's stream boundaries.
-/
def Obligations.StreamsDecodeUniquely : Prop :=
  (∀ xs : List Insn, (∀ x ∈ xs, x.wellFormed = true) → decodeUpTo xs.length (encodeAll xs) = .ok xs) ∧
  (∀ xs ys : List Insn, (∀ x ∈ xs, x.wellFormed = true) → (∀ y ∈ ys, y.wellFormed = true) →
    encodeAll xs = encodeAll ys → xs = ys)

/-- The link from `exec` to `step` (40_step.md R91): the program counter is moved by the meaning itself. -/
def Obligations.StepRunsTheDecodedInstruction : Prop :=
  (∀ (s : State) (i : Instr), s.mem.read s.regs.pc.toNat = some i.opcode → step s = exec i s) ∧
  (∀ (s : State) (x : Insn) (rest : List Byte),
    decode (s.mem.toBytes.drop s.regs.pc.toNat) = .ok (x, rest) → step s = exec x.instr s)

/-- Bounds check and decoder agree (20_memory.md R33); `PC_OVERFLOW = fault` has its own statement,
`TopOfAddressSpace`. -/
def Obligations.StepFailsWhereDecodingFails : Prop :=
  ∀ s : State, s.cfg.pcOverflow = .wrap →
    (step s = .fault .outOfBounds ↔ ∃ r, decode (s.mem.toBytes.drop s.regs.pc.toNat) = .error r)

/-- Result, frame and completion of every instruction of class `ZeroPage` (41_zero_page.md R200). The wrapped value
at 65536 is the spec's decision D2 (log entry 5). -/
def Obligations.ZeroPageInstructionsStepOverOneOperand : Prop :=
  ∀ i ∈ (
      [.op04, .op05, .op06, .op07, .op24, .op25, .op26, .op27, .op44, .op45, .op46, .op47, .op64, .op65, .op66,
       .op67, .op84, .op85, .op86, .op87, .opA4, .opA5, .opA6, .opA7, .opC4, .opC5, .opC6, .opC7, .opE4, .opE5,
       .opE6, .opE7] : List Instr),
    classify i.opcode = .zeroPage ∧ StepsOverOperands i 1

/-- Result, frame and completion of every instruction of class `ZeroPageX` (42_zero_page_indexed.md R233). The
wrapped value at 65536 is the spec's decision D2 (log entry 5). -/
def Obligations.ZeroPageXInstructionsStepOverOneOperand : Prop :=
  ∀ i ∈ (
      [.op14, .op15, .op16, .op17, .op34, .op35, .op36, .op37, .op54, .op55, .op56, .op57, .op74, .op75, .op76,
       .op77, .op94, .op95, .opB4, .opB5, .opD4, .opD5, .opD6, .opD7, .opF4, .opF5, .opF6, .opF7] : List Instr),
    classify i.opcode = .zeroPageX ∧ StepsOverOperands i 1

/-- Result, frame and completion of every instruction of class `ZeroPageY` (42_zero_page_indexed.md R262). The
wrapped value at 65536 is the spec's decision D2 (log entry 5). -/
def Obligations.ZeroPageYInstructionsStepOverOneOperand : Prop :=
  ∀ i ∈ (
      [.op96, .op97, .opB6, .opB7] : List Instr),
    classify i.opcode = .zeroPageY ∧ StepsOverOperands i 1

/-- Result, frame and completion of every instruction of class `Abs` (43_absolute.md R300). The wrapped value at
65536 is the spec's decision D2 (log entry 5). -/
def Obligations.AbsoluteInstructionsStepOverTwoOperands : Prop :=
  ∀ i ∈ (
      [.op0C, .op0D, .op0E, .op0F, .op20, .op2C, .op2D, .op2E, .op2F, .op4C, .op4D, .op4E, .op4F, .op6D, .op6E,
       .op6F, .op8C, .op8D, .op8E, .op8F, .opAC, .opAD, .opAE, .opAF, .opCC, .opCD, .opCE, .opCF, .opEC, .opED,
       .opEE, .opEF] : List Instr),
    classify i.opcode = .abs ∧ StepsOverOperands i 2

/-- Result, frame and completion of every instruction of class `AbsIdxX` (44_absolute_indexed.md R333). The wrapped
value at 65536 is the spec's decision D2 (log entry 5). -/
def Obligations.AbsoluteIndexedXInstructionsStepOverTwoOperands : Prop :=
  ∀ i ∈ (
      [.op1C, .op1D, .op1E, .op1F, .op3C, .op3D, .op3E, .op3F, .op5C, .op5D, .op5E, .op5F, .op7C, .op7D, .op7E,
       .op7F, .op9C, .op9D, .opBC, .opBD, .opDC, .opDD, .opDE, .opDF, .opFC, .opFD, .opFE, .opFF] : List Instr),
    classify i.opcode = .absIdxX ∧ StepsOverOperands i 2

/-- Result, frame and completion of every instruction of class `AbsIdxY` (44_absolute_indexed.md R362). The wrapped
value at 65536 is the spec's decision D2 (log entry 5). -/
def Obligations.AbsoluteIndexedYInstructionsStepOverTwoOperands : Prop :=
  ∀ i ∈ (
      [.op19, .op9E, .op9F, .opBE, .opBF] : List Instr),
    classify i.opcode = .absIdxY ∧ StepsOverOperands i 2

/-- Result, frame and completion of every instruction of class `IndIdxX` (45_indirect.md R400). The wrapped value at
65536 is the spec's decision D2 (log entry 5). -/
def Obligations.IndexedIndirectXInstructionsStepOverOneOperand : Prop :=
  ∀ i ∈ (
      [.op01, .op03, .op21, .op23, .op41, .op43, .op61, .op63, .op81, .op83, .opA1, .opA3, .opC1, .opC3, .opE1,
       .opE3] : List Instr),
    classify i.opcode = .indIdxX ∧ StepsOverOperands i 1

/-- Result, frame and completion of every instruction of class `IndIdxY` (45_indirect.md R417). The wrapped value at
65536 is the spec's decision D2 (log entry 5). -/
def Obligations.IndirectIndexedYInstructionsStepOverOneOperand : Prop :=
  ∀ i ∈ (
      [.op11, .op13, .op31, .op33, .op51, .op53, .op71, .op73, .op91, .op93, .opB1, .opB3, .opD1, .opD3, .opF1,
       .opF3] : List Instr),
    classify i.opcode = .indIdxY ∧ StepsOverOperands i 1

/-- Result, frame and completion of every instruction of class `Ind` (45_indirect.md R434). The wrapped value at
65536 is the spec's decision D2 (log entry 5). -/
def Obligations.IndirectInstructionsStepOverTwoOperands : Prop :=
  ∀ i ∈ (
      [.op6C] : List Instr),
    classify i.opcode = .ind ∧ StepsOverOperands i 2

/-- Result, frame and completion of every instruction of class `Imm` (46_immediate.md R500). The wrapped value at
65536 is the spec's decision D2 (log entry 5). -/
def Obligations.ImmediateInstructionsStepOverOneOperand : Prop :=
  ∀ i ∈ (
      [.op09, .op0B, .op29, .op2B, .op49, .op4B, .op69, .op6B, .op80, .op82, .op89, .op8B, .opA0, .opA2, .opA9,
       .opAB, .opC0, .opC2, .opC9, .opCB, .opE0, .opE2, .opE9, .opEB] : List Instr),
    classify i.opcode = .imm ∧ StepsOverOperands i 1

/-- Result, frame and completion of every instruction of class `Rel` (47_relative.md R550). The wrapped value at
65536 is the spec's decision D2 (log entry 5). -/
def Obligations.RelativeInstructionsStepOverOneOperand : Prop :=
  ∀ i ∈ (
      [.op10, .op30, .op50, .op70, .op90, .opB0, .opD0, .opF0] : List Instr),
    classify i.opcode = .rel ∧ StepsOverOperands i 1

/-- Result, frame and completion of every instruction of class `Implicit` (48_implicit.md R600). The wrapped value
at 65536 is the spec's decision D2 (log entry 5). -/
def Obligations.ImplicitInstructionsStepOverNoOperand : Prop :=
  ∀ i ∈ (
      [.op00, .op02, .op08, .op0A, .op12, .op18, .op1A, .op1B, .op22, .op28, .op2A, .op32, .op38, .op39, .op3A,
       .op3B, .op40, .op42, .op48, .op4A, .op52, .op58, .op59, .op5A, .op5B, .op60, .op62, .op68, .op6A, .op72,
       .op78, .op79, .op7A, .op7B, .op88, .op8A, .op92, .op98, .op99, .op9A, .op9B, .opA8, .opAA, .opB2, .opB8,
       .opB9, .opBA, .opBB, .opC8, .opCA, .opD2, .opD8, .opD9, .opDA, .opDB, .opE8, .opEA, .opF2, .opF8, .opF9,
       .opFA, .opFB] : List Instr),
    classify i.opcode = .implicit ∧ StepsOverOperands i 0

/-- The 256 meanings refine the one rule of the stepper (40_step.md R91), classifier and resolver included
(00_scope.md R2). The case of the sum 65536 is R96 (decision D2, log entry 5). -/
def Obligations.StepIsTheStepRule : Prop :=
  ∀ s : State, step s =
    match s.mem.read s.regs.pc.toNat with
    | none => .fault .outOfBounds
    | some op =>
      if s.mem.len.val ≤ s.regs.pc.toNat + operandSize (classify op) then .fault .outOfBounds
      else if s.regs.pc.toNat + operandSize (classify op) + 1 = 65536 ∧ s.cfg.pcOverflow = .fault then
        .fault .outOfBounds
      else .next (s.movedPast (operandSize (classify op)))

/-- The stepper advancement law (40_step.md R92). -/
def Obligations.AdvancementLaw : Prop :=
  ∀ (s : State) (op : Byte), s.mem.read s.regs.pc.toNat = some op →
    s.regs.pc.toNat + operandSize (classify op) + 1 ≤ s.mem.len.val →
    s.regs.pc.toNat + operandSize (classify op) + 1 < 65536 →
    ∃ t, step s = .next t ∧ t.regs.pc.toNat = s.regs.pc.toNat + operandSize (classify op) + 1 ∧
      t.regs.a = s.regs.a ∧ t.regs.x = s.regs.x ∧ t.regs.y = s.regs.y ∧ t.regs.sp = s.regs.sp ∧
      t.regs.p = s.regs.p

/-- The stepper bounds law (40_step.md R93), the operand range taken in natural numbers (20_memory.md R33). -/
def Obligations.BoundsLaw : Prop :=
  ∀ s : State,
    (s.mem.len.val ≤ s.regs.pc.toNat ∨
      ∃ op, s.mem.read s.regs.pc.toNat = some op ∧
        s.mem.len.val ≤ s.regs.pc.toNat + operandSize (classify op)) →
    step s = .fault .outOfBounds ∧ serve .step s = (.failed .outOfBounds, s)

/-- The top of the address space (40_step.md R96; the spec's decision D2, log entry 5). -/
def Obligations.TopOfAddressSpace : Prop :=
  ∀ (s : State) (op : Byte), s.mem.read s.regs.pc.toNat = some op →
    (s.regs.pc.toNat + operandSize (classify op) + 1 = 65536 → s.mem.len.val = 65536 →
      s.cfg.pcOverflow = .wrap →
      step s = .next { cfg := s.cfg, mem := s.mem, regs := { s.regs with pc := 0x0000 } }) ∧
    (s.regs.pc.toNat + operandSize (classify op) + 1 = 65536 → s.cfg.pcOverflow = .fault →
      step s = .fault .outOfBounds) ∧
    (65536 < s.regs.pc.toNat + operandSize (classify op) + 1 → step s = .fault .outOfBounds)

/-- The frame of a step (40_step.md R94). -/
def Obligations.StepMutatesOnlyThePc : Prop :=
  (∀ s t : State, step s = .next t →
    t.regs.a = s.regs.a ∧ t.regs.x = s.regs.x ∧ t.regs.y = s.regs.y ∧ t.regs.sp = s.regs.sp ∧
    t.regs.p = s.regs.p ∧ t.cfg = s.cfg ∧ t.mem.len = s.mem.len ∧ ∀ a, t.mem.read a = s.mem.read a) ∧
  (∀ s : State,
    let t := (serve .step s).2
    t.regs.a = s.regs.a ∧ t.regs.x = s.regs.x ∧ t.regs.y = s.regs.y ∧ t.regs.sp = s.regs.sp ∧
    t.regs.p = s.regs.p ∧ t.cfg = s.cfg ∧ t.mem.len = s.mem.len ∧ ∀ a, t.mem.read a = s.mem.read a)

/-- The frame of every instruction (40_step.md R95): the stream is walked linearly, control is never transferred. -/
def Obligations.NoInstructionHasAnEffectButItsLength : Prop :=
  ∀ (i : Instr) (s t : State), exec i s = .next t →
    t.regs.pc = s.regs.pc + BitVec.ofNat 16 (lengthOf i.opcode) ∧
    t.regs.a = s.regs.a ∧ t.regs.x = s.regs.x ∧ t.regs.y = s.regs.y ∧ t.regs.sp = s.regs.sp ∧
    t.regs.p = s.regs.p ∧ t.cfg = s.cfg ∧ t.mem.len = s.mem.len ∧ ∀ a, t.mem.read a = s.mem.read a

/-- When the one condition of the step is raised (60_exceptions.md R111). `PC_OVERFLOW = fault` adds the case of
`TopOfAddressSpace` (log entry 5). -/
def Obligations.OutOfBoundsInExactlyTwoSituations : Prop :=
  (∀ s : State, s.cfg.pcOverflow = .wrap →
    (step s = .fault .outOfBounds ↔
      s.mem.len.val ≤ s.regs.pc.toNat ∨
      (s.regs.pc.toNat < s.mem.len.val ∧
        ∃ op, s.mem.read s.regs.pc.toNat = some op ∧
          s.mem.len.val ≤ s.regs.pc.toNat + operandSize (classify op)))) ∧
  (∀ (r : Request) (s : State), r ≠ .step → (serve r s).1 ≠ .failed .outOfBounds)

/-- There is no illegal, reserved or hint opcode (30_encoding.md R72); a step always has an answer. -/
def Obligations.EveryOpcodeIsSteppedOverByItsLength : Prop :=
  ∀ s : State, s.cfg.pcOverflow = .wrap →
    (∃ op, s.mem.read s.regs.pc.toNat = some op ∧ s.covers (operandSize (classify op)) ∧
      step s = .next (s.movedPast (operandSize (classify op)))) ∨
    ((s.mem.len.val ≤ s.regs.pc.toNat ∨
        ∃ op, s.mem.read s.regs.pc.toNat = some op ∧ ¬ s.covers (operandSize (classify op))) ∧
      step s = .fault .outOfBounds)

/-- What a safe state is (Safety.lean), and that `step` never answers `NotImplemented` or any other refusal
(60_exceptions.md R115). -/
def Obligations.SafeStepsAreExactlyTheNextOnes : Prop :=
  ∀ s : State, ((∃ t, step s = .next t) ↔ s.stepSafe) ∧ ∀ r, step s ≠ .refused r

/-- No trap entry, no latch, no return (60_exceptions.md R112, R119, R120; the absence of a latch is decision D13,
log entry 8). -/
def Obligations.FailedStepLeavesNoTraceAndMayBeRetried : Prop :=
  ∀ s : State, step s = .fault .outOfBounds →
    serve .step s = (.failed .outOfBounds, s) ∧
    serve .step (serve .step s).2 = (.failed .outOfBounds, s) ∧
    ∀ (v : Memory) (op : Byte), v.read s.regs.pc.toNat = some op →
      s.regs.pc.toNat + operandSize (classify op) < v.len.val → s.cfg.pcOverflow = .wrap →
      step { (serve .step s).2 with mem := v } =
        .next (State.movedPast { s with mem := v } (operandSize (classify op)))

/-- The `NotImplemented` signal (60_exceptions.md R115; the entry point is the spec's decision D14, log entry 9). -/
def Obligations.RunSurfaceAnswersNotImplemented : Prop :=
  (∀ s : State, serve .run s = (.refused .notImplemented, s)) ∧
  (∀ (r : Request) (s : State), r ≠ .run → (serve r s).1 ≠ .refused .notImplemented) ∧
  (∀ (i : Instr) (s : State), exec i s ≠ .refused .notImplemented)

/-- Determinism in its own inputs (40_step.md R97, derived there). -/
def Obligations.StepIsAFunctionOfPcAndView : Prop :=
  ∀ s u : State, s.regs.pc = u.regs.pc → s.mem = u.mem → s.cfg.pcOverflow = u.cfg.pcOverflow →
    (∃ s' u', step s = .next s' ∧ step u = .next u' ∧ s'.regs.pc = u'.regs.pc) ∨
    (step s = .fault .outOfBounds ∧ step u = .fault .outOfBounds)

/-- The one memory read of a step (20_memory.md R31; that operands are not read is the spec's decision D10, log
entry 6). -/
def Obligations.StepReadsOnlyTheOpcodeByte : Prop :=
  ∀ s u : State, s.regs = u.regs → s.cfg.pcOverflow = u.cfg.pcOverflow → s.mem.len = u.mem.len →
    s.mem.read s.regs.pc.toNat = u.mem.read u.regs.pc.toNat →
    (∃ s' u', step s = .next s' ∧ step u = .next u' ∧ s'.regs = u'.regs) ∨
    (step s = .fault .outOfBounds ∧ step u = .fault .outOfBounds)

/-- Bounds of a read (20_memory.md R32): the view is the array the driver supplied, and no value stands for an
address outside it. -/
def Obligations.MemReadBounds : Prop :=
  (∀ bs : List Byte, bs.length ≤ 65536 →
    ∃ m, Memory.ofBytes bs = some m ∧ m.len.val = bs.length ∧ ∀ a, m.read a = bs[a]?) ∧
  (∀ (m : Memory) (a : Nat), (∃ b, m.read a = some b) ↔ a < m.len.val) ∧
  (∀ s : State, s.mem.len.val ≤ s.regs.pc.toNat → step s = .fault .outOfBounds)

/-- Instruction-fetch coherence (20_memory.md R41, decision D18) and the domain of the view (R30, U12; log entries 7
and 17). -/
def Obligations.SuppliedViewIsWhatTheNextStepFetches : Prop :=
  (∀ (bs : List Byte) (s : State), bs.length ≤ 65536 →
    ∃ t, serve (.supplyView bs) s = (.ok, t) ∧ t.mem.wf = true ∧ t.mem.toBytes = bs ∧ t.regs = s.regs ∧
      t.cfg = s.cfg ∧ fetch t = bs[s.regs.pc.toNat]?) ∧
  (∀ (bs : List Byte) (s : State), 65536 < bs.length → serve (.supplyView bs) s = (.refused .viewTooLong, s))

/-- The canonical form is unique (the model's form of the byte array of 20_memory.md R30, log entry 3). -/
def Obligations.CanonicalViewsThatReadAlikeAreEqual : Prop :=
  ∀ m m' : Memory, m.wf = true → m'.wf = true → m.len = m'.len → (∀ a, m.read a = m'.read a) → m = m'

/-- Listings and operand sequences (30_encoding.md R76, R70, 20_memory.md R35). -/
def Obligations.ListedInstructionIsTheDecodedOne : Prop :=
  ∀ (s : State) (a : Nat) (x : Insn), s.insnAt a = some x ↔
    ∃ rest, decode (s.mem.toBytes.drop a) = .ok (x, rest)

/-- Where the invariant starts (10_state.md R18). That the view of `State.reset` is the empty list over 65536 bytes
is log entries 2 and 3. -/
def Obligations.ResetStateMeetsTheInvariant : Prop :=
  State.reset.Inv ∧ ∀ (c : Config) (v : Memory), v.wf = true → (State.create c v).Inv

/-- The invariant of the block (10_state.md R17): only the program counter ever leaves its reset value, and the view
stays canonical. -/
def Obligations.EveryStepKeepsTheInvariant : Prop :=
  ∀ s t : State, s.Inv → step s = .next t →
    t.Inv ∧ t.cfg = s.cfg ∧ t.mem = s.mem ∧ t.regs.pc.toNat ≤ t.mem.len.val

/-- What is reachable (92_eei_decisions.md D21; 10_state.md R17): no port loads a register. One request at a time is
`EveryRequestKeepsTheInvariant`. -/
def Obligations.NoDriverCanMakeAnotherRegisterNonzero : Prop :=
  ∀ (c : Config) (v : Memory) (rs : List Request), v.wf = true →
    (serveAll rs (State.create c v)).Inv ∧ (serveAll rs (State.create c v)).cfg = c

/-- The linear sweep (40_step.md R95, 70_reset_and_hazards.md R137), over all instruction streams that end below the
top. The number of steps ends the run (the model's reading of 40_step.md R103, log entry 19). A stream that ends at
the top is `RunsThatEndAtTheTop`. -/
def Obligations.RunsWalkTheStreamLinearly : Prop :=
  ∀ (s : State) (xs : List Insn), (∀ x ∈ xs, x.wellFormed = true) →
    (∀ (k : Nat) (b : Byte), (encodeAll xs)[k]? = some b → s.mem.read (s.regs.pc.toNat + k) = some b) →
    s.regs.pc.toNat + (encodeAll xs).length < 65536 →
    Host.Core.run core xs.length s =
      .next { cfg := s.cfg, mem := s.mem,
              regs := { s.regs with pc := BitVec.ofNat 16 (s.regs.pc.toNat + (encodeAll xs).length) } }

/-- Bounded progress (40_step.md R92, R93): there is no halting opcode and no loop over a short view. That a failed
step or the number of steps ends a run of `core` is the model's choice (log entries 8 and 19). -/
def Obligations.ShortViewEndsEveryRun : Prop :=
  ∀ s : State, s.mem.len.val < 65536 → Host.Core.run core (s.mem.len.val + 1) s = .fault .outOfBounds

/-- Lengths are 1, 2 or 3 (30_encoding.md R50); the wrap is R96 (decision D2, log entry 5). -/
def Obligations.ProgramCounterMovesForwardOrWraps : Prop :=
  ∀ s t : State, step s = .next t →
    (s.regs.pc.toNat < t.regs.pc.toNat ∧ t.regs.pc.toNat ≤ s.regs.pc.toNat + 3 ∧
      t.regs.pc.toNat ≤ s.mem.len.val) ∨
    (s.mem.len.val = 65536 ∧ s.cfg.pcOverflow = .wrap ∧ 0xFFFD ≤ s.regs.pc.toNat ∧ t.regs.pc = 0x0000)

/-- "Exactly one of `step_ok`, `step_oob` answers each `step_req`" (40_step.md R100, a port list of the spec's own,
D8, log entry 15). -/
def Obligations.EveryStepRequestHasOneAnswer : Prop :=
  ∀ s : State,
    (∃ t, serve .step s = (.ok, t) ∧ step s = .next t) ∨
    (serve .step s = (.failed .outOfBounds, s) ∧ step s = .fault .outOfBounds)

/-- The leaf functions hold no state (10_state.md R20); reset at any time is the spec's decision D17 (log entry 18).
-/
def Obligations.PureRequestsChangeNothing : Prop :=
  (∀ (op : Byte) (s : State), serve (.classify op) s = (.mode (classify op), s)) ∧
  (∀ (m : AddrMode) (s : State), serve (.operandSize m) s = (.size (operandSize m), s) ∧ operandSize m ≤ 2) ∧
  (∀ s : State, serve .reset s = (.ok, resetOp s))

/-- How a placed instruction comes to run (log entry 10), on every state. -/
def Obligations.PlacedWordIsTheNextInstructionRun : Prop :=
  ∀ (s : State) (w : Nat), s.mem.wf = true → s.regs.pc.toNat + 3 < 65536 →
    (s.withFetchWord 8 w).regs = s.regs ∧ (s.withFetchWord 8 w).cfg = s.cfg ∧
    (s.withFetchWord 8 w).mem.wf = true ∧
    (s.withFetchWord 8 w).mem.read s.regs.pc.toNat = some (BitVec.ofNat 8 w) ∧
    step (s.withFetchWord 8 w) = exec (decodeOpcode (BitVec.ofNat 8 w)) (s.withFetchWord 8 w) ∧
    ∃ t, step (s.withFetchWord 8 w) = .next t

/-- The linear sweep to the top of the address space (40_step.md R95, R96): beside `RunsWalkTheStreamLinearly`. The
values at 65536 are decision D2 (log entry 5), and what ends a run is log entries 8 and 19. -/
def Obligations.RunsThatEndAtTheTop : Prop :=
  ∀ (s : State) (xs : List Insn), (∀ x ∈ xs, x.wellFormed = true) →
    (∀ (k : Nat) (b : Byte), (encodeAll xs)[k]? = some b → s.mem.read (s.regs.pc.toNat + k) = some b) →
    s.regs.pc.toNat + (encodeAll xs).length = 65536 →
    (s.cfg.pcOverflow = .wrap → Host.Core.run core xs.length s =
      .next { cfg := s.cfg, mem := s.mem, regs := { s.regs with pc := 0x0000 } }) ∧
    (s.cfg.pcOverflow = .fault → Host.Core.run core xs.length s = .fault .outOfBounds)

/-- The invariant of the block against its driver (10_state.md R17): no request loads a register, and every view
handed over is kept in canonical form (the model's form, log entry 3). -/
def Obligations.EveryRequestKeepsTheInvariant : Prop :=
  ∀ (r : Request) (s : State), s.Inv →
    (serve r s).2.Inv ∧ (serve r s).2.cfg = s.cfg ∧
    ((∃ f, (serve r s).1 = .failed f) ∨ (∃ why, (serve r s).1 = .refused why) → (serve r s).2 = s)

end
end

