-- ==== Sys2Proof/Laws/PerInstr.lean ====
section
/-! SUPPORT. Per-instruction facts about the encoding, one lemma per constructor of `Instr`: the family `Encoding`. -/

namespace Sys2Proof.Laws.Encoding

/-- The opcode byte of `i` decodes to `i` (30_encoding.md R76), and the twelve tests give it the class its family file
lists it in (R53 against R200, R233, R262, R300, R333, R362, R400, R417, R434, R500, R550, R600). -/
abbrev Statement (i : Instr) : Prop := decodeOpcode i.opcode = i ∧ classify i.opcode = i.classOf

theorem op00 : Statement .op00 := ⟨rfl, rfl⟩
theorem op01 : Statement .op01 := ⟨rfl, rfl⟩
theorem op02 : Statement .op02 := ⟨rfl, rfl⟩
theorem op03 : Statement .op03 := ⟨rfl, rfl⟩
theorem op04 : Statement .op04 := ⟨rfl, rfl⟩
theorem op05 : Statement .op05 := ⟨rfl, rfl⟩
theorem op06 : Statement .op06 := ⟨rfl, rfl⟩
theorem op07 : Statement .op07 := ⟨rfl, rfl⟩
theorem op08 : Statement .op08 := ⟨rfl, rfl⟩
theorem op09 : Statement .op09 := ⟨rfl, rfl⟩
theorem op0A : Statement .op0A := ⟨rfl, rfl⟩
theorem op0B : Statement .op0B := ⟨rfl, rfl⟩
theorem op0C : Statement .op0C := ⟨rfl, rfl⟩
theorem op0D : Statement .op0D := ⟨rfl, rfl⟩
theorem op0E : Statement .op0E := ⟨rfl, rfl⟩
theorem op0F : Statement .op0F := ⟨rfl, rfl⟩
theorem op10 : Statement .op10 := ⟨rfl, rfl⟩
theorem op11 : Statement .op11 := ⟨rfl, rfl⟩
theorem op12 : Statement .op12 := ⟨rfl, rfl⟩
theorem op13 : Statement .op13 := ⟨rfl, rfl⟩
theorem op14 : Statement .op14 := ⟨rfl, rfl⟩
theorem op15 : Statement .op15 := ⟨rfl, rfl⟩
theorem op16 : Statement .op16 := ⟨rfl, rfl⟩
theorem op17 : Statement .op17 := ⟨rfl, rfl⟩
theorem op18 : Statement .op18 := ⟨rfl, rfl⟩
theorem op19 : Statement .op19 := ⟨rfl, rfl⟩
theorem op1A : Statement .op1A := ⟨rfl, rfl⟩
theorem op1B : Statement .op1B := ⟨rfl, rfl⟩
theorem op1C : Statement .op1C := ⟨rfl, rfl⟩
theorem op1D : Statement .op1D := ⟨rfl, rfl⟩
theorem op1E : Statement .op1E := ⟨rfl, rfl⟩
theorem op1F : Statement .op1F := ⟨rfl, rfl⟩
theorem op20 : Statement .op20 := ⟨rfl, rfl⟩
theorem op21 : Statement .op21 := ⟨rfl, rfl⟩
theorem op22 : Statement .op22 := ⟨rfl, rfl⟩
theorem op23 : Statement .op23 := ⟨rfl, rfl⟩
theorem op24 : Statement .op24 := ⟨rfl, rfl⟩
theorem op25 : Statement .op25 := ⟨rfl, rfl⟩
theorem op26 : Statement .op26 := ⟨rfl, rfl⟩
theorem op27 : Statement .op27 := ⟨rfl, rfl⟩
theorem op28 : Statement .op28 := ⟨rfl, rfl⟩
theorem op29 : Statement .op29 := ⟨rfl, rfl⟩
theorem op2A : Statement .op2A := ⟨rfl, rfl⟩
theorem op2B : Statement .op2B := ⟨rfl, rfl⟩
theorem op2C : Statement .op2C := ⟨rfl, rfl⟩
theorem op2D : Statement .op2D := ⟨rfl, rfl⟩
theorem op2E : Statement .op2E := ⟨rfl, rfl⟩
theorem op2F : Statement .op2F := ⟨rfl, rfl⟩
theorem op30 : Statement .op30 := ⟨rfl, rfl⟩
theorem op31 : Statement .op31 := ⟨rfl, rfl⟩
theorem op32 : Statement .op32 := ⟨rfl, rfl⟩
theorem op33 : Statement .op33 := ⟨rfl, rfl⟩
theorem op34 : Statement .op34 := ⟨rfl, rfl⟩
theorem op35 : Statement .op35 := ⟨rfl, rfl⟩
theorem op36 : Statement .op36 := ⟨rfl, rfl⟩
theorem op37 : Statement .op37 := ⟨rfl, rfl⟩
theorem op38 : Statement .op38 := ⟨rfl, rfl⟩
theorem op39 : Statement .op39 := ⟨rfl, rfl⟩
theorem op3A : Statement .op3A := ⟨rfl, rfl⟩
theorem op3B : Statement .op3B := ⟨rfl, rfl⟩
theorem op3C : Statement .op3C := ⟨rfl, rfl⟩
theorem op3D : Statement .op3D := ⟨rfl, rfl⟩
theorem op3E : Statement .op3E := ⟨rfl, rfl⟩
theorem op3F : Statement .op3F := ⟨rfl, rfl⟩
theorem op40 : Statement .op40 := ⟨rfl, rfl⟩
theorem op41 : Statement .op41 := ⟨rfl, rfl⟩
theorem op42 : Statement .op42 := ⟨rfl, rfl⟩
theorem op43 : Statement .op43 := ⟨rfl, rfl⟩
theorem op44 : Statement .op44 := ⟨rfl, rfl⟩
theorem op45 : Statement .op45 := ⟨rfl, rfl⟩
theorem op46 : Statement .op46 := ⟨rfl, rfl⟩
theorem op47 : Statement .op47 := ⟨rfl, rfl⟩
theorem op48 : Statement .op48 := ⟨rfl, rfl⟩
theorem op49 : Statement .op49 := ⟨rfl, rfl⟩
theorem op4A : Statement .op4A := ⟨rfl, rfl⟩
theorem op4B : Statement .op4B := ⟨rfl, rfl⟩
theorem op4C : Statement .op4C := ⟨rfl, rfl⟩
theorem op4D : Statement .op4D := ⟨rfl, rfl⟩
theorem op4E : Statement .op4E := ⟨rfl, rfl⟩
theorem op4F : Statement .op4F := ⟨rfl, rfl⟩
theorem op50 : Statement .op50 := ⟨rfl, rfl⟩
theorem op51 : Statement .op51 := ⟨rfl, rfl⟩
theorem op52 : Statement .op52 := ⟨rfl, rfl⟩
theorem op53 : Statement .op53 := ⟨rfl, rfl⟩
theorem op54 : Statement .op54 := ⟨rfl, rfl⟩
theorem op55 : Statement .op55 := ⟨rfl, rfl⟩
theorem op56 : Statement .op56 := ⟨rfl, rfl⟩
theorem op57 : Statement .op57 := ⟨rfl, rfl⟩
theorem op58 : Statement .op58 := ⟨rfl, rfl⟩
theorem op59 : Statement .op59 := ⟨rfl, rfl⟩
theorem op5A : Statement .op5A := ⟨rfl, rfl⟩
theorem op5B : Statement .op5B := ⟨rfl, rfl⟩
theorem op5C : Statement .op5C := ⟨rfl, rfl⟩
theorem op5D : Statement .op5D := ⟨rfl, rfl⟩
theorem op5E : Statement .op5E := ⟨rfl, rfl⟩
theorem op5F : Statement .op5F := ⟨rfl, rfl⟩
theorem op60 : Statement .op60 := ⟨rfl, rfl⟩
theorem op61 : Statement .op61 := ⟨rfl, rfl⟩
theorem op62 : Statement .op62 := ⟨rfl, rfl⟩
theorem op63 : Statement .op63 := ⟨rfl, rfl⟩
theorem op64 : Statement .op64 := ⟨rfl, rfl⟩
theorem op65 : Statement .op65 := ⟨rfl, rfl⟩
theorem op66 : Statement .op66 := ⟨rfl, rfl⟩
theorem op67 : Statement .op67 := ⟨rfl, rfl⟩
theorem op68 : Statement .op68 := ⟨rfl, rfl⟩
theorem op69 : Statement .op69 := ⟨rfl, rfl⟩
theorem op6A : Statement .op6A := ⟨rfl, rfl⟩
theorem op6B : Statement .op6B := ⟨rfl, rfl⟩
theorem op6C : Statement .op6C := ⟨rfl, rfl⟩
theorem op6D : Statement .op6D := ⟨rfl, rfl⟩
theorem op6E : Statement .op6E := ⟨rfl, rfl⟩
theorem op6F : Statement .op6F := ⟨rfl, rfl⟩
theorem op70 : Statement .op70 := ⟨rfl, rfl⟩
theorem op71 : Statement .op71 := ⟨rfl, rfl⟩
theorem op72 : Statement .op72 := ⟨rfl, rfl⟩
theorem op73 : Statement .op73 := ⟨rfl, rfl⟩
theorem op74 : Statement .op74 := ⟨rfl, rfl⟩
theorem op75 : Statement .op75 := ⟨rfl, rfl⟩
theorem op76 : Statement .op76 := ⟨rfl, rfl⟩
theorem op77 : Statement .op77 := ⟨rfl, rfl⟩
theorem op78 : Statement .op78 := ⟨rfl, rfl⟩
theorem op79 : Statement .op79 := ⟨rfl, rfl⟩
theorem op7A : Statement .op7A := ⟨rfl, rfl⟩
theorem op7B : Statement .op7B := ⟨rfl, rfl⟩
theorem op7C : Statement .op7C := ⟨rfl, rfl⟩
theorem op7D : Statement .op7D := ⟨rfl, rfl⟩
theorem op7E : Statement .op7E := ⟨rfl, rfl⟩
theorem op7F : Statement .op7F := ⟨rfl, rfl⟩
theorem op80 : Statement .op80 := ⟨rfl, rfl⟩
theorem op81 : Statement .op81 := ⟨rfl, rfl⟩
theorem op82 : Statement .op82 := ⟨rfl, rfl⟩
theorem op83 : Statement .op83 := ⟨rfl, rfl⟩
theorem op84 : Statement .op84 := ⟨rfl, rfl⟩
theorem op85 : Statement .op85 := ⟨rfl, rfl⟩
theorem op86 : Statement .op86 := ⟨rfl, rfl⟩
theorem op87 : Statement .op87 := ⟨rfl, rfl⟩
theorem op88 : Statement .op88 := ⟨rfl, rfl⟩
theorem op89 : Statement .op89 := ⟨rfl, rfl⟩
theorem op8A : Statement .op8A := ⟨rfl, rfl⟩
theorem op8B : Statement .op8B := ⟨rfl, rfl⟩
theorem op8C : Statement .op8C := ⟨rfl, rfl⟩
theorem op8D : Statement .op8D := ⟨rfl, rfl⟩
theorem op8E : Statement .op8E := ⟨rfl, rfl⟩
theorem op8F : Statement .op8F := ⟨rfl, rfl⟩
theorem op90 : Statement .op90 := ⟨rfl, rfl⟩
theorem op91 : Statement .op91 := ⟨rfl, rfl⟩
theorem op92 : Statement .op92 := ⟨rfl, rfl⟩
theorem op93 : Statement .op93 := ⟨rfl, rfl⟩
theorem op94 : Statement .op94 := ⟨rfl, rfl⟩
theorem op95 : Statement .op95 := ⟨rfl, rfl⟩
theorem op96 : Statement .op96 := ⟨rfl, rfl⟩
theorem op97 : Statement .op97 := ⟨rfl, rfl⟩
theorem op98 : Statement .op98 := ⟨rfl, rfl⟩
theorem op99 : Statement .op99 := ⟨rfl, rfl⟩
theorem op9A : Statement .op9A := ⟨rfl, rfl⟩
theorem op9B : Statement .op9B := ⟨rfl, rfl⟩
theorem op9C : Statement .op9C := ⟨rfl, rfl⟩
theorem op9D : Statement .op9D := ⟨rfl, rfl⟩
theorem op9E : Statement .op9E := ⟨rfl, rfl⟩
theorem op9F : Statement .op9F := ⟨rfl, rfl⟩
theorem opA0 : Statement .opA0 := ⟨rfl, rfl⟩
theorem opA1 : Statement .opA1 := ⟨rfl, rfl⟩
theorem opA2 : Statement .opA2 := ⟨rfl, rfl⟩
theorem opA3 : Statement .opA3 := ⟨rfl, rfl⟩
theorem opA4 : Statement .opA4 := ⟨rfl, rfl⟩
theorem opA5 : Statement .opA5 := ⟨rfl, rfl⟩
theorem opA6 : Statement .opA6 := ⟨rfl, rfl⟩
theorem opA7 : Statement .opA7 := ⟨rfl, rfl⟩
theorem opA8 : Statement .opA8 := ⟨rfl, rfl⟩
theorem opA9 : Statement .opA9 := ⟨rfl, rfl⟩
theorem opAA : Statement .opAA := ⟨rfl, rfl⟩
theorem opAB : Statement .opAB := ⟨rfl, rfl⟩
theorem opAC : Statement .opAC := ⟨rfl, rfl⟩
theorem opAD : Statement .opAD := ⟨rfl, rfl⟩
theorem opAE : Statement .opAE := ⟨rfl, rfl⟩
theorem opAF : Statement .opAF := ⟨rfl, rfl⟩
theorem opB0 : Statement .opB0 := ⟨rfl, rfl⟩
theorem opB1 : Statement .opB1 := ⟨rfl, rfl⟩
theorem opB2 : Statement .opB2 := ⟨rfl, rfl⟩
theorem opB3 : Statement .opB3 := ⟨rfl, rfl⟩
theorem opB4 : Statement .opB4 := ⟨rfl, rfl⟩
theorem opB5 : Statement .opB5 := ⟨rfl, rfl⟩
theorem opB6 : Statement .opB6 := ⟨rfl, rfl⟩
theorem opB7 : Statement .opB7 := ⟨rfl, rfl⟩
theorem opB8 : Statement .opB8 := ⟨rfl, rfl⟩
theorem opB9 : Statement .opB9 := ⟨rfl, rfl⟩
theorem opBA : Statement .opBA := ⟨rfl, rfl⟩
theorem opBB : Statement .opBB := ⟨rfl, rfl⟩
theorem opBC : Statement .opBC := ⟨rfl, rfl⟩
theorem opBD : Statement .opBD := ⟨rfl, rfl⟩
theorem opBE : Statement .opBE := ⟨rfl, rfl⟩
theorem opBF : Statement .opBF := ⟨rfl, rfl⟩
theorem opC0 : Statement .opC0 := ⟨rfl, rfl⟩
theorem opC1 : Statement .opC1 := ⟨rfl, rfl⟩
theorem opC2 : Statement .opC2 := ⟨rfl, rfl⟩
theorem opC3 : Statement .opC3 := ⟨rfl, rfl⟩
theorem opC4 : Statement .opC4 := ⟨rfl, rfl⟩
theorem opC5 : Statement .opC5 := ⟨rfl, rfl⟩
theorem opC6 : Statement .opC6 := ⟨rfl, rfl⟩
theorem opC7 : Statement .opC7 := ⟨rfl, rfl⟩
theorem opC8 : Statement .opC8 := ⟨rfl, rfl⟩
theorem opC9 : Statement .opC9 := ⟨rfl, rfl⟩
theorem opCA : Statement .opCA := ⟨rfl, rfl⟩
theorem opCB : Statement .opCB := ⟨rfl, rfl⟩
theorem opCC : Statement .opCC := ⟨rfl, rfl⟩
theorem opCD : Statement .opCD := ⟨rfl, rfl⟩
theorem opCE : Statement .opCE := ⟨rfl, rfl⟩
theorem opCF : Statement .opCF := ⟨rfl, rfl⟩
theorem opD0 : Statement .opD0 := ⟨rfl, rfl⟩
theorem opD1 : Statement .opD1 := ⟨rfl, rfl⟩
theorem opD2 : Statement .opD2 := ⟨rfl, rfl⟩
theorem opD3 : Statement .opD3 := ⟨rfl, rfl⟩
theorem opD4 : Statement .opD4 := ⟨rfl, rfl⟩
theorem opD5 : Statement .opD5 := ⟨rfl, rfl⟩
theorem opD6 : Statement .opD6 := ⟨rfl, rfl⟩
theorem opD7 : Statement .opD7 := ⟨rfl, rfl⟩
theorem opD8 : Statement .opD8 := ⟨rfl, rfl⟩
theorem opD9 : Statement .opD9 := ⟨rfl, rfl⟩
theorem opDA : Statement .opDA := ⟨rfl, rfl⟩
theorem opDB : Statement .opDB := ⟨rfl, rfl⟩
theorem opDC : Statement .opDC := ⟨rfl, rfl⟩
theorem opDD : Statement .opDD := ⟨rfl, rfl⟩
theorem opDE : Statement .opDE := ⟨rfl, rfl⟩
theorem opDF : Statement .opDF := ⟨rfl, rfl⟩
theorem opE0 : Statement .opE0 := ⟨rfl, rfl⟩
theorem opE1 : Statement .opE1 := ⟨rfl, rfl⟩
theorem opE2 : Statement .opE2 := ⟨rfl, rfl⟩
theorem opE3 : Statement .opE3 := ⟨rfl, rfl⟩
theorem opE4 : Statement .opE4 := ⟨rfl, rfl⟩
theorem opE5 : Statement .opE5 := ⟨rfl, rfl⟩
theorem opE6 : Statement .opE6 := ⟨rfl, rfl⟩
theorem opE7 : Statement .opE7 := ⟨rfl, rfl⟩
theorem opE8 : Statement .opE8 := ⟨rfl, rfl⟩
theorem opE9 : Statement .opE9 := ⟨rfl, rfl⟩
theorem opEA : Statement .opEA := ⟨rfl, rfl⟩
theorem opEB : Statement .opEB := ⟨rfl, rfl⟩
theorem opEC : Statement .opEC := ⟨rfl, rfl⟩
theorem opED : Statement .opED := ⟨rfl, rfl⟩
theorem opEE : Statement .opEE := ⟨rfl, rfl⟩
theorem opEF : Statement .opEF := ⟨rfl, rfl⟩
theorem opF0 : Statement .opF0 := ⟨rfl, rfl⟩
theorem opF1 : Statement .opF1 := ⟨rfl, rfl⟩
theorem opF2 : Statement .opF2 := ⟨rfl, rfl⟩
theorem opF3 : Statement .opF3 := ⟨rfl, rfl⟩
theorem opF4 : Statement .opF4 := ⟨rfl, rfl⟩
theorem opF5 : Statement .opF5 := ⟨rfl, rfl⟩
theorem opF6 : Statement .opF6 := ⟨rfl, rfl⟩
theorem opF7 : Statement .opF7 := ⟨rfl, rfl⟩
theorem opF8 : Statement .opF8 := ⟨rfl, rfl⟩
theorem opF9 : Statement .opF9 := ⟨rfl, rfl⟩
theorem opFA : Statement .opFA := ⟨rfl, rfl⟩
theorem opFB : Statement .opFB := ⟨rfl, rfl⟩
theorem opFC : Statement .opFC := ⟨rfl, rfl⟩
theorem opFD : Statement .opFD := ⟨rfl, rfl⟩
theorem opFE : Statement .opFE := ⟨rfl, rfl⟩
theorem opFF : Statement .opFF := ⟨rfl, rfl⟩

end Sys2Proof.Laws.Encoding
end

