-- ==== Sys2Proof/Laws/Decode.lean ====
section
/-! SUPPORT. Opcode bytes and instructions are in one-to-one correspondence, and the lemmas of the decoder. -/

namespace Sys2Proof

theorem encodingStatement (i : Instr) : Laws.Encoding.Statement i := by
  cases i <;> exact ⟨rfl, rfl⟩

theorem decodeOpcode_opcode (i : Instr) : decodeOpcode i.opcode = i := (encodingStatement i).1

theorem classify_opcode (i : Instr) : classify i.opcode = i.classOf := (encodingStatement i).2

theorem opcode_decodeOpcode (op : Byte) : (decodeOpcode op).opcode = op := by
  have h : ∀ k : Fin 256, (decodeOpcode (BitVec.ofFin k)).opcode = BitVec.ofFin k := by decide +kernel
  exact h op.toFin

theorem operandSize_le (m : AddrMode) : operandSize m ≤ 2 := by cases m <;> decide

theorem decode_cons (op : Byte) (rest : List Byte) :
    decode (op :: rest) =
      if operandSize (classify op) ≤ rest.length then
        .ok ({ instr := decodeOpcode op, operands := rest.take (operandSize (classify op)) },
          rest.drop (operandSize (classify op)))
      else .error .missingOperands := rfl

end Sys2Proof
end

