-- ==== Sys2Proof/Laws/State.lean ====
section
/-! SUPPORT. One lemma per field and update of the state, true by rfl. -/

namespace Sys2Proof.Machine

@[simp] theorem State.setPc_cfg (s : State) (v : Addr) : (s.setPc v).cfg = s.cfg := rfl
@[simp] theorem State.setPc_mem (s : State) (v : Addr) : (s.setPc v).mem = s.mem := rfl
@[simp] theorem State.setPc_pc (s : State) (v : Addr) : (s.setPc v).regs.pc = v := rfl
@[simp] theorem State.setPc_a (s : State) (v : Addr) : (s.setPc v).regs.a = s.regs.a := rfl
@[simp] theorem State.setPc_x (s : State) (v : Addr) : (s.setPc v).regs.x = s.regs.x := rfl
@[simp] theorem State.setPc_y (s : State) (v : Addr) : (s.setPc v).regs.y = s.regs.y := rfl
@[simp] theorem State.setPc_sp (s : State) (v : Addr) : (s.setPc v).regs.sp = s.regs.sp := rfl
@[simp] theorem State.setPc_p (s : State) (v : Addr) : (s.setPc v).regs.p = s.regs.p := rfl
@[simp] theorem State.setPc_status (s : State) (v : Addr) : (s.setPc v).status = s.status := rfl
@[simp] theorem State.setPc_setPc (s : State) (v w : Addr) : (s.setPc v).setPc w = s.setPc w := rfl

@[simp] theorem resetOp_cfg (s : State) : (resetOp s).cfg = s.cfg := rfl
@[simp] theorem resetOp_mem (s : State) : (resetOp s).mem = s.mem := rfl
@[simp] theorem resetOp_regs (s : State) : (resetOp s).regs = Registers.zero := rfl

@[simp] theorem State.create_cfg (c : Config) (m : Memory) : (State.create c m).cfg = c := rfl
@[simp] theorem State.create_mem (c : Config) (m : Memory) : (State.create c m).mem = m := rfl
@[simp] theorem State.create_regs (c : Config) (m : Memory) : (State.create c m).regs = Registers.zero := rfl

@[simp] theorem State.withFetchWord_cfg (s : State) (n w : Nat) : (s.withFetchWord n w).cfg = s.cfg := rfl
@[simp] theorem State.withFetchWord_regs (s : State) (n w : Nat) : (s.withFetchWord n w).regs = s.regs := rfl

@[simp] theorem Memory.cover_cells (m : Memory) (n : Nat) : (m.cover n).cells = m.cells := rfl
@[simp] theorem Memory.cover_len (m : Memory) (n : Nat) :
    (m.cover n).len.val = max m.len.val (min n 65536) := rfl

end Sys2Proof.Machine
end

