-- ==== Sys2Proof/Laws/Memory.lean ====
section
/-! SUPPORT. The memory view: reads after changes, and that every operation keeps the canonical form. -/

namespace Sys2Proof.Machine.Memory

theorem cellsWf_cons (len lo k : Nat) (b : Byte) (rest : List Host.Cell) :
    cellsWf len lo ((k, b) :: rest) = true ↔
      lo ≤ k ∧ k < len ∧ b ≠ unlisted ∧ cellsWf len (k + 1) rest = true := by
  simp [cellsWf, and_assoc]

/-- The bounds of a canonical list may be loosened. -/
theorem cellsWf_weaken {len len' lo lo' : Nat} {cs : List Host.Cell} (h : cellsWf len lo cs = true)
    (hlo : lo' ≤ lo) (hlen : len ≤ len') : cellsWf len' lo' cs = true := by
  induction cs generalizing lo lo' with
  | nil => rfl
  | cons c rest ih =>
    obtain ⟨k, b⟩ := c
    rw [cellsWf_cons] at h ⊢
    exact ⟨by omega, by omega, h.2.2.1, ih h.2.2.2 (Nat.le_refl _)⟩

/-- Below its first address a canonical list lists nothing. -/
theorem lookup_below {len lo a : Nat} {cs : List Host.Cell} (h : cellsWf len lo cs = true) (ha : a < lo) :
    lookup cs a = unlisted := by
  induction cs generalizing lo with
  | nil => rfl
  | cons c rest ih =>
    obtain ⟨k, b⟩ := c
    rw [cellsWf_cons] at h
    rw [lookup, if_neg (by omega)]
    exact ih h.2.2.2 (by omega)

/-- Read after write on a list of cells. -/
theorem lookup_putCell {len lo : Nat} {cs : List Host.Cell} (a : Nat) (b : Byte) (h : cellsWf len lo cs = true)
    (x : Nat) : lookup (putCell a b cs) x = if x = a then b else lookup cs x := by
  induction cs generalizing lo with
  | nil => rw [putCell]; grind [lookup]
  | cons c rest ih =>
    obtain ⟨k, d⟩ := c
    rw [cellsWf_cons] at h
    have hb : lookup rest k = unlisted := lookup_below h.2.2.2 (by omega)
    have hba : a < k → lookup rest a = unlisted := fun h' => lookup_below h.2.2.2 (by omega)
    have := ih h.2.2.2
    rw [putCell]
    grind [lookup]

/-- Writing keeps the canonical form of a list of cells. -/
theorem cellsWf_putCell {len lo : Nat} {cs : List Host.Cell} (a : Nat) (b : Byte) (h : cellsWf len lo cs = true)
    (hlo : lo ≤ a) (ha : a < len) : cellsWf len lo (putCell a b cs) = true := by
  induction cs generalizing lo with
  | nil =>
    rw [putCell]
    split
    · rfl
    · rw [cellsWf_cons]; exact ⟨hlo, ha, ‹_›, rfl⟩
  | cons c rest ih =>
    obtain ⟨k, d⟩ := c
    have h' := h
    rw [cellsWf_cons] at h
    rw [putCell]
    split
    · split
      · exact h'
      · rw [cellsWf_cons, cellsWf_cons]
        exact ⟨hlo, ha, ‹_›, by omega, h.2.1, h.2.2.1, h.2.2.2⟩
    · split
      · split
        · exact cellsWf_weaken h.2.2.2 (by omega) (Nat.le_refl _)
        · rw [cellsWf_cons]
          exact ⟨hlo, ha, ‹_›, cellsWf_weaken h.2.2.2 (by omega) (Nat.le_refl _)⟩
      · rw [cellsWf_cons]
        exact ⟨h.1, h.2.1, h.2.2.1, ih h.2.2.2 (by omega)⟩

theorem wf_place {m : Memory} (a : Nat) (b : Byte) (h : m.wf = true) : (m.place a b).wf = true := by
  unfold place
  split
  · exact cellsWf_putCell a b h (Nat.zero_le _) ‹_›
  · exact h

theorem place_len (m : Memory) (a : Nat) (b : Byte) : (m.place a b).len = m.len := by
  unfold place; split <;> rfl

theorem wf_placeBytes {m : Memory} (a : Nat) (bs : List Byte) (h : m.wf = true) :
    (m.placeBytes a bs).wf = true := by
  induction bs generalizing m a with
  | nil => exact h
  | cons b bs ih => exact ih (a + 1) (wf_place a b h)

theorem placeBytes_len (m : Memory) (a : Nat) (bs : List Byte) : (m.placeBytes a bs).len = m.len := by
  induction bs generalizing m a with
  | nil => rfl
  | cons b bs ih => rw [placeBytes, ih, place_len]

theorem wf_cover {m : Memory} (n : Nat) (h : m.wf = true) : (m.cover n).wf = true :=
  cellsWf_weaken h (Nat.le_refl _) (Nat.le_max_left ..)

theorem cellsWf_cellsOf (base : Nat) (bs : List Byte) : cellsWf (base + bs.length) base (cellsOf base bs) = true := by
  induction bs generalizing base with
  | nil => rfl
  | cons b bs ih =>
    have h := ih (base + 1)
    rw [cellsOf]
    split
    · exact cellsWf_weaken h (by omega) (by simp only [List.length_cons]; omega)
    · rw [cellsWf_cons]
      exact ⟨Nat.le_refl _, by simp only [List.length_cons]; omega, ‹_›,
        cellsWf_weaken h (Nat.le_refl _) (by simp only [List.length_cons]; omega)⟩

theorem wf_ofBytes {bs : List Byte} {m : Memory} (h : ofBytes bs = some m) : m.wf = true := by
  unfold ofBytes at h
  split at h
  · cases h
    simpa [wf] using cellsWf_cellsOf 0 bs
  · cases h

theorem wf_blank : blank.wf = true := rfl

/-- The cells of a byte sequence give each byte back at its address. -/
theorem lookup_cellsOf (base : Nat) (bs : List Byte) (k : Nat) :
    lookup (cellsOf base bs) (base + k) = (bs[k]?).getD unlisted := by
  induction bs generalizing base k with
  | nil => rfl
  | cons b bs ih =>
    cases k with
    | zero =>
      have hlow : lookup (cellsOf (base + 1) bs) base = unlisted :=
        lookup_below (cellsWf_cellsOf (base + 1) bs) (Nat.lt_succ_self _)
      rw [cellsOf]
      split
      · simp_all
      · simp [lookup]
    | succ k =>
      have h := ih (base + 1) k
      rw [show base + 1 + k = base + (k + 1) by omega] at h
      rw [cellsOf]
      split
      · simpa using h
      · rw [lookup, if_neg (by omega)]; simpa using h

/-- A read inside the view gives a byte, a read outside gives none. -/
theorem read_eq_none_iff (m : Memory) (a : Nat) : m.read a = none ↔ m.len.val ≤ a := by
  unfold read; split <;> simp <;> omega

/-- Read after write. -/
theorem read_place {m : Memory} (h : m.wf = true) (a : Nat) (b : Byte) (x : Nat) :
    (m.place a b).read x = if x = a ∧ a < m.len.val then some b else m.read x := by
  unfold read place
  have := lookup_putCell a b h
  grind

end Sys2Proof.Machine.Memory
end

