-- ==== Sys2Proof/Laws/Ops.lean ====
section
/-! SUPPORT. What the shared operations and a step can do, said once. -/

namespace Sys2Proof.Machine

/-- Everything `advance` can do. -/
theorem advance_cases (n : Nat) (s : State) :
    (s.mem.len.val ≤ s.regs.pc.toNat + n ∧ advance n s = .fault .outOfBounds) ∨
    (s.regs.pc.toNat + n < s.mem.len.val ∧ s.regs.pc.toNat + n + 1 = 65536 ∧ s.cfg.pcOverflow = .fault ∧
      advance n s = .fault .outOfBounds) ∨
    (s.regs.pc.toNat + n < s.mem.len.val ∧ (s.regs.pc.toNat + n + 1 ≠ 65536 ∨ s.cfg.pcOverflow = .wrap) ∧
      advance n s = .next (s.setPc (BitVec.ofNat 16 (s.regs.pc.toNat + n + 1)))) := by
  unfold advance raise
  cases hc : s.cfg.pcOverflow <;> grind

/-- If `advance` answers a next state, only the program counter moved. -/
theorem advance_next {n : Nat} {s t : State} (h : advance n s = .next t) :
    s.regs.pc.toNat + n < s.mem.len.val ∧ t = s.setPc (BitVec.ofNat 16 (s.regs.pc.toNat + n + 1)) := by
  rcases advance_cases n s with ⟨_, h'⟩ | ⟨_, _, _, h'⟩ | ⟨hlt, _, h'⟩ <;> rw [h'] at h <;> cases h
  exact ⟨hlt, rfl⟩

/-- Every instruction's meaning is the step over its own opcode byte. -/
theorem exec_eq_stepOver (i : Instr) (s : State) : exec i s = stepOver i.opcode s := by
  cases i <;> rfl

/-- The same, by the class the family files list the instruction in. -/
theorem exec_eq_advance (i : Instr) (s : State) : exec i s = advance (operandSize i.classOf) s := by
  rw [exec_eq_stepOver, stepOver, classify_opcode]

theorem step_of_fetch_none {s : State} (h : fetch s = none) : step s = .fault .outOfBounds := by
  unfold step; rw [h]; rfl

theorem step_of_fetch {s : State} {op : Byte} (h : fetch s = some op) : step s = stepOver op s := by
  unfold step; rw [h]; simp only [exec_eq_stepOver, opcode_decodeOpcode]

theorem fetch_eq_none_iff (s : State) : fetch s = none ↔ s.mem.len.val ≤ s.regs.pc.toNat :=
  Memory.read_eq_none_iff ..

/-- Everything a step can do. -/
theorem step_cases (s : State) :
    (fetch s = none ∧ step s = .fault .outOfBounds) ∨
    (∃ op, fetch s = some op ∧ step s = advance (operandSize (classify op)) s) := by
  cases h : fetch s with
  | none => exact .inl ⟨rfl, step_of_fetch_none h⟩
  | some op => exact .inr ⟨op, rfl, step_of_fetch h⟩

/-- One more step of a run. -/
theorem run_succ (k : Nat) (s : State) :
    Host.Core.run core (k + 1) s =
      match step s with
      | .next t => Host.Core.run core k t
      | .fault f => .fault f
      | .refused r => .refused r := by
  have h := Host.Core.run.eq_2 core s k
  cases hs : step s <;> (have hc : core.step s = _ := hs; rw [hc] at h; exact h)

theorem run_zero (s : State) : Host.Core.run core 0 s = .next s := rfl

end Sys2Proof.Machine
end

