-- ==== Sys2Proof/Tests/Slice0.lean ====
section
/-! SUPPORT. The model's own tests: expected results come from spec/95_test_vectors.md and the rules named beside each;
and for every statement with hypotheses a concrete input that meets them. -/

namespace Sys2Proof.Tests
open Sys2Proof.Machine

/-- A machine with distinct values in the registers no instruction touches (the start of V-S15), a view of `len` bytes,
and the given bytes placed from `base`. -/
def machine (len : Fin 65537) (pc : Addr) (base : Nat) (bs : List Byte) : State :=
  { cfg := Config.standard
    regs := { a := 0x12, x := 0x34, y := 0x56, pc := pc, sp := 0x78, p := 0x9A }
    mem := { len := len, cells := Memory.cellsOf base bs } }

/-- The same machine with `PC_OVERFLOW = fault`. -/
def machineF (len : Fin 65537) (pc : Addr) (base : Nat) (bs : List Byte) : State :=
  { machine len pc base bs with cfg := { archId := "", pcOverflow := .fault } }

/-- Is the outcome the state `s` with the program counter `v` and nothing else changed? -/
def movedTo (s : State) (v : Addr) : Host.Outcome State Fault Refusal → Bool
  | .next t => decide (t = { s with regs := { s.regs with pc := v } })
  | _ => false

def isOob : Host.Outcome State Fault Refusal → Bool
  | .fault .outOfBounds => true
  | _ => false

def stepsTo (s : State) (v : Addr) : Bool := movedTo s v (step s)
def stepOob (s : State) : Bool := isOob (step s)
def execTo (i : Instr) (s : State) (v : Addr) : Bool := movedTo s v (exec i s)
def execOob (i : Instr) (s : State) : Bool := isOob (exec i s)

/-! ## WellFormed: each check refuses an ill-formed term -/

/-- `OP_A9` (Imm) needs one operand byte (R50, R500). -/
theorem test_wellFormed_missing_operand : ({ instr := .opA9, operands := [] } : Insn).wellFormed = false := by decide

theorem test_wellFormed_one_of_two : ({ instr := .opAD, operands := [0x00] } : Insn).wellFormed = false := by decide

/-- `OP_EA` (Implicit) has none (R50, R600). -/
theorem test_wellFormed_extra_operand : ({ instr := .opEA, operands := [0x00] } : Insn).wellFormed = false := by decide

theorem test_wellFormed_good : ({ instr := .opAD, operands := [0x00, 0x02] } : Insn).wellFormed = true := by decide

/-! ## Decoding: every opcode, written out as the bits `h_l` its family file's table gives it -/

/-- Does the decoder read each word as the instruction beside it, and the classifier give the class `m`? -/
def decodesTo (m : AddrMode) (rows : List (Nat × Instr)) : Bool :=
  rows.all fun r => decide (decodeTableWord 8 r.1 = some r.2) && decide (classify (BitVec.ofNat 8 r.1) = m)

/-- Source: the table of class `ZeroPage` in 41_zero_page.md. -/
theorem test_decode_zeroPage : decodesTo .zeroPage
    [(0b00000100, .op04), (0b00000101, .op05), (0b00000110, .op06), (0b00000111, .op07), (0b00100100, .op24),
     (0b00100101, .op25), (0b00100110, .op26), (0b00100111, .op27), (0b01000100, .op44), (0b01000101, .op45),
     (0b01000110, .op46), (0b01000111, .op47), (0b01100100, .op64), (0b01100101, .op65), (0b01100110, .op66),
     (0b01100111, .op67), (0b10000100, .op84), (0b10000101, .op85), (0b10000110, .op86), (0b10000111, .op87),
     (0b10100100, .opA4), (0b10100101, .opA5), (0b10100110, .opA6), (0b10100111, .opA7), (0b11000100, .opC4),
     (0b11000101, .opC5), (0b11000110, .opC6), (0b11000111, .opC7), (0b11100100, .opE4), (0b11100101, .opE5),
     (0b11100110, .opE6), (0b11100111, .opE7)] = true := by decide +kernel

/-- Source: the table of class `ZeroPageX` in 42_zero_page_indexed.md. -/
theorem test_decode_zeroPageX : decodesTo .zeroPageX
    [(0b00010100, .op14), (0b00010101, .op15), (0b00010110, .op16), (0b00010111, .op17), (0b00110100, .op34),
     (0b00110101, .op35), (0b00110110, .op36), (0b00110111, .op37), (0b01010100, .op54), (0b01010101, .op55),
     (0b01010110, .op56), (0b01010111, .op57), (0b01110100, .op74), (0b01110101, .op75), (0b01110110, .op76),
     (0b01110111, .op77), (0b10010100, .op94), (0b10010101, .op95), (0b10110100, .opB4), (0b10110101, .opB5),
     (0b11010100, .opD4), (0b11010101, .opD5), (0b11010110, .opD6), (0b11010111, .opD7), (0b11110100, .opF4),
     (0b11110101, .opF5), (0b11110110, .opF6), (0b11110111, .opF7)] = true := by decide +kernel

/-- Source: the table of class `ZeroPageY` in 42_zero_page_indexed.md. -/
theorem test_decode_zeroPageY : decodesTo .zeroPageY
    [(0b10010110, .op96), (0b10010111, .op97), (0b10110110, .opB6), (0b10110111, .opB7)] = true := by decide +kernel

/-- Source: the table of class `Abs` in 43_absolute.md. -/
theorem test_decode_abs : decodesTo .abs
    [(0b00001100, .op0C), (0b00001101, .op0D), (0b00001110, .op0E), (0b00001111, .op0F), (0b00100000, .op20),
     (0b00101100, .op2C), (0b00101101, .op2D), (0b00101110, .op2E), (0b00101111, .op2F), (0b01001100, .op4C),
     (0b01001101, .op4D), (0b01001110, .op4E), (0b01001111, .op4F), (0b01101101, .op6D), (0b01101110, .op6E),
     (0b01101111, .op6F), (0b10001100, .op8C), (0b10001101, .op8D), (0b10001110, .op8E), (0b10001111, .op8F),
     (0b10101100, .opAC), (0b10101101, .opAD), (0b10101110, .opAE), (0b10101111, .opAF), (0b11001100, .opCC),
     (0b11001101, .opCD), (0b11001110, .opCE), (0b11001111, .opCF), (0b11101100, .opEC), (0b11101101, .opED),
     (0b11101110, .opEE), (0b11101111, .opEF)] = true := by decide +kernel

/-- Source: the table of class `AbsIdxX` in 44_absolute_indexed.md. -/
theorem test_decode_absIdxX : decodesTo .absIdxX
    [(0b00011100, .op1C), (0b00011101, .op1D), (0b00011110, .op1E), (0b00011111, .op1F), (0b00111100, .op3C),
     (0b00111101, .op3D), (0b00111110, .op3E), (0b00111111, .op3F), (0b01011100, .op5C), (0b01011101, .op5D),
     (0b01011110, .op5E), (0b01011111, .op5F), (0b01111100, .op7C), (0b01111101, .op7D), (0b01111110, .op7E),
     (0b01111111, .op7F), (0b10011100, .op9C), (0b10011101, .op9D), (0b10111100, .opBC), (0b10111101, .opBD),
     (0b11011100, .opDC), (0b11011101, .opDD), (0b11011110, .opDE), (0b11011111, .opDF), (0b11111100, .opFC),
     (0b11111101, .opFD), (0b11111110, .opFE), (0b11111111, .opFF)] = true := by decide +kernel

/-- Source: the table of class `AbsIdxY` in 44_absolute_indexed.md. -/
theorem test_decode_absIdxY : decodesTo .absIdxY
    [(0b00011001, .op19), (0b10011110, .op9E), (0b10011111, .op9F), (0b10111110, .opBE), (0b10111111, .opBF)] = true := by decide +kernel

/-- Source: the table of class `IndIdxX` in 45_indirect.md. -/
theorem test_decode_indIdxX : decodesTo .indIdxX
    [(0b00000001, .op01), (0b00000011, .op03), (0b00100001, .op21), (0b00100011, .op23), (0b01000001, .op41),
     (0b01000011, .op43), (0b01100001, .op61), (0b01100011, .op63), (0b10000001, .op81), (0b10000011, .op83),
     (0b10100001, .opA1), (0b10100011, .opA3), (0b11000001, .opC1), (0b11000011, .opC3), (0b11100001, .opE1),
     (0b11100011, .opE3)] = true := by decide +kernel

/-- Source: the table of class `IndIdxY` in 45_indirect.md. -/
theorem test_decode_indIdxY : decodesTo .indIdxY
    [(0b00010001, .op11), (0b00010011, .op13), (0b00110001, .op31), (0b00110011, .op33), (0b01010001, .op51),
     (0b01010011, .op53), (0b01110001, .op71), (0b01110011, .op73), (0b10010001, .op91), (0b10010011, .op93),
     (0b10110001, .opB1), (0b10110011, .opB3), (0b11010001, .opD1), (0b11010011, .opD3), (0b11110001, .opF1),
     (0b11110011, .opF3)] = true := by decide +kernel

/-- Source: the table of class `Ind` in 45_indirect.md. -/
theorem test_decode_ind : decodesTo .ind
    [(0b01101100, .op6C)] = true := by decide +kernel

/-- Source: the table of class `Imm` in 46_immediate.md. -/
theorem test_decode_imm : decodesTo .imm
    [(0b00001001, .op09), (0b00001011, .op0B), (0b00101001, .op29), (0b00101011, .op2B), (0b01001001, .op49),
     (0b01001011, .op4B), (0b01101001, .op69), (0b01101011, .op6B), (0b10000000, .op80), (0b10000010, .op82),
     (0b10001001, .op89), (0b10001011, .op8B), (0b10100000, .opA0), (0b10100010, .opA2), (0b10101001, .opA9),
     (0b10101011, .opAB), (0b11000000, .opC0), (0b11000010, .opC2), (0b11001001, .opC9), (0b11001011, .opCB),
     (0b11100000, .opE0), (0b11100010, .opE2), (0b11101001, .opE9), (0b11101011, .opEB)] = true := by decide +kernel

/-- Source: the table of class `Rel` in 47_relative.md. -/
theorem test_decode_rel : decodesTo .rel
    [(0b00010000, .op10), (0b00110000, .op30), (0b01010000, .op50), (0b01110000, .op70), (0b10010000, .op90),
     (0b10110000, .opB0), (0b11010000, .opD0), (0b11110000, .opF0)] = true := by decide +kernel

/-- Source: the table of class `Implicit` in 48_implicit.md. -/
theorem test_decode_implicit : decodesTo .implicit
    [(0b00000000, .op00), (0b00000010, .op02), (0b00001000, .op08), (0b00001010, .op0A), (0b00010010, .op12),
     (0b00011000, .op18), (0b00011010, .op1A), (0b00011011, .op1B), (0b00100010, .op22), (0b00101000, .op28),
     (0b00101010, .op2A), (0b00110010, .op32), (0b00111000, .op38), (0b00111001, .op39), (0b00111010, .op3A),
     (0b00111011, .op3B), (0b01000000, .op40), (0b01000010, .op42), (0b01001000, .op48), (0b01001010, .op4A),
     (0b01010010, .op52), (0b01011000, .op58), (0b01011001, .op59), (0b01011010, .op5A), (0b01011011, .op5B),
     (0b01100000, .op60), (0b01100010, .op62), (0b01101000, .op68), (0b01101010, .op6A), (0b01110010, .op72),
     (0b01111000, .op78), (0b01111001, .op79), (0b01111010, .op7A), (0b01111011, .op7B), (0b10001000, .op88),
     (0b10001010, .op8A), (0b10010010, .op92), (0b10011000, .op98), (0b10011001, .op99), (0b10011010, .op9A),
     (0b10011011, .op9B), (0b10101000, .opA8), (0b10101010, .opAA), (0b10110010, .opB2), (0b10111000, .opB8),
     (0b10111001, .opB9), (0b10111010, .opBA), (0b10111011, .opBB), (0b11001000, .opC8), (0b11001010, .opCA),
     (0b11010010, .opD2), (0b11011000, .opD8), (0b11011001, .opD9), (0b11011010, .opDA), (0b11011011, .opDB),
     (0b11101000, .opE8), (0b11101010, .opEA), (0b11110010, .opF2), (0b11111000, .opF8), (0b11111001, .opF9),
     (0b11111010, .opFA), (0b11111011, .opFB)] = true := by decide +kernel

/-! ## The exhaustive vector: every opcode's own example -/

/-- The matrix of instruction lengths, row by row. Source: 30_encoding.md section 6. -/
def lengthMatrix : List Nat :=
  [1, 2, 1, 2, 2, 2, 2, 2, 1, 2, 1, 2, 3, 3, 3, 3,
   2, 2, 1, 2, 2, 2, 2, 2, 1, 3, 1, 1, 3, 3, 3, 3,
   3, 2, 1, 2, 2, 2, 2, 2, 1, 2, 1, 2, 3, 3, 3, 3,
   2, 2, 1, 2, 2, 2, 2, 2, 1, 1, 1, 1, 3, 3, 3, 3,
   1, 2, 1, 2, 2, 2, 2, 2, 1, 2, 1, 2, 3, 3, 3, 3,
   2, 2, 1, 2, 2, 2, 2, 2, 1, 1, 1, 1, 3, 3, 3, 3,
   1, 2, 1, 2, 2, 2, 2, 2, 1, 2, 1, 2, 3, 3, 3, 3,
   2, 2, 1, 2, 2, 2, 2, 2, 1, 1, 1, 1, 3, 3, 3, 3,
   2, 2, 2, 2, 2, 2, 2, 2, 1, 2, 1, 2, 3, 3, 3, 3,
   2, 2, 1, 2, 2, 2, 2, 2, 1, 1, 1, 1, 3, 3, 3, 3,
   2, 2, 2, 2, 2, 2, 2, 2, 1, 2, 1, 2, 3, 3, 3, 3,
   2, 2, 1, 2, 2, 2, 2, 2, 1, 1, 1, 1, 3, 3, 3, 3,
   2, 2, 2, 2, 2, 2, 2, 2, 1, 2, 1, 2, 3, 3, 3, 3,
   2, 2, 1, 2, 2, 2, 2, 2, 1, 1, 1, 1, 3, 3, 3, 3,
   2, 2, 2, 2, 2, 2, 2, 2, 1, 2, 1, 2, 3, 3, 3, 3,
   2, 2, 1, 2, 2, 2, 2, 2, 1, 1, 1, 1, 3, 3, 3, 3]

/-- Every per-opcode rule's example: `MEMLEN = 65536`, `pc = 0xC000 + 3*op`, `MEM[pc] = op`, result `pc + length`, every
other register unchanged. Source: 95_test_vectors.md, exhaustive vector, rules R201 to R662. -/
theorem test_step_every_opcode :
    (List.range 256).all (fun k =>
      stepsTo (machine 65536 (BitVec.ofNat 16 (0xC000 + 3 * k)) (0xC000 + 3 * k) [BitVec.ofNat 8 k])
        (BitVec.ofNat 16 (0xC000 + 3 * k + lengthMatrix.getD k 0))) = true := by decide +kernel

/-! ## Step vectors per class: the first and the last opcode of each, anywhere, last fitting, first failing -/

/-- Source: 95_test_vectors.md V-F1, V-F2. -/
theorem test_exec_zeroPage :
    execTo .op04 (machine 0x0800 0x0400 0 []) 0x0402 = true ∧
    execTo .op04 (machine 0x0800 0x07FE 0 []) 0x0800 = true ∧
    execOob .op04 (machine 0x0800 0x07FF 0 []) = true ∧
    execTo .opE7 (machine 0x0800 0x0400 0 []) 0x0402 = true ∧
    execTo .opE7 (machine 0x0800 0x07FE 0 []) 0x0800 = true ∧
    execOob .opE7 (machine 0x0800 0x07FF 0 []) = true := by decide

/-- Source: 95_test_vectors.md V-F3, V-F4. -/
theorem test_exec_zeroPageX :
    execTo .op14 (machine 0x0800 0x0400 0 []) 0x0402 = true ∧
    execTo .op14 (machine 0x0800 0x07FE 0 []) 0x0800 = true ∧
    execOob .op14 (machine 0x0800 0x07FF 0 []) = true ∧
    execTo .opF7 (machine 0x0800 0x0400 0 []) 0x0402 = true ∧
    execTo .opF7 (machine 0x0800 0x07FE 0 []) 0x0800 = true ∧
    execOob .opF7 (machine 0x0800 0x07FF 0 []) = true := by decide

/-- Source: 95_test_vectors.md V-F5, V-F6. -/
theorem test_exec_zeroPageY :
    execTo .op96 (machine 0x0800 0x0400 0 []) 0x0402 = true ∧
    execTo .op96 (machine 0x0800 0x07FE 0 []) 0x0800 = true ∧
    execOob .op96 (machine 0x0800 0x07FF 0 []) = true ∧
    execTo .opB7 (machine 0x0800 0x0400 0 []) 0x0402 = true ∧
    execTo .opB7 (machine 0x0800 0x07FE 0 []) 0x0800 = true ∧
    execOob .opB7 (machine 0x0800 0x07FF 0 []) = true := by decide

/-- Source: 95_test_vectors.md V-F7, V-F8. -/
theorem test_exec_abs :
    execTo .op0C (machine 0x0800 0x0400 0 []) 0x0403 = true ∧
    execTo .op0C (machine 0x0800 0x07FD 0 []) 0x0800 = true ∧
    execOob .op0C (machine 0x0800 0x07FE 0 []) = true ∧
    execTo .opEF (machine 0x0800 0x0400 0 []) 0x0403 = true ∧
    execTo .opEF (machine 0x0800 0x07FD 0 []) 0x0800 = true ∧
    execOob .opEF (machine 0x0800 0x07FE 0 []) = true := by decide

/-- Source: 95_test_vectors.md V-F9, V-F10. -/
theorem test_exec_absIdxX :
    execTo .op1C (machine 0x0800 0x0400 0 []) 0x0403 = true ∧
    execTo .op1C (machine 0x0800 0x07FD 0 []) 0x0800 = true ∧
    execOob .op1C (machine 0x0800 0x07FE 0 []) = true ∧
    execTo .opFF (machine 0x0800 0x0400 0 []) 0x0403 = true ∧
    execTo .opFF (machine 0x0800 0x07FD 0 []) 0x0800 = true ∧
    execOob .opFF (machine 0x0800 0x07FE 0 []) = true := by decide

/-- Source: 95_test_vectors.md V-F11, V-F12. -/
theorem test_exec_absIdxY :
    execTo .op19 (machine 0x0800 0x0400 0 []) 0x0403 = true ∧
    execTo .op19 (machine 0x0800 0x07FD 0 []) 0x0800 = true ∧
    execOob .op19 (machine 0x0800 0x07FE 0 []) = true ∧
    execTo .opBF (machine 0x0800 0x0400 0 []) 0x0403 = true ∧
    execTo .opBF (machine 0x0800 0x07FD 0 []) 0x0800 = true ∧
    execOob .opBF (machine 0x0800 0x07FE 0 []) = true := by decide

/-- Source: 95_test_vectors.md V-F13, V-F14. -/
theorem test_exec_indIdxX :
    execTo .op01 (machine 0x0800 0x0400 0 []) 0x0402 = true ∧
    execTo .op01 (machine 0x0800 0x07FE 0 []) 0x0800 = true ∧
    execOob .op01 (machine 0x0800 0x07FF 0 []) = true ∧
    execTo .opE3 (machine 0x0800 0x0400 0 []) 0x0402 = true ∧
    execTo .opE3 (machine 0x0800 0x07FE 0 []) 0x0800 = true ∧
    execOob .opE3 (machine 0x0800 0x07FF 0 []) = true := by decide

/-- Source: 95_test_vectors.md V-F15, V-F16. -/
theorem test_exec_indIdxY :
    execTo .op11 (machine 0x0800 0x0400 0 []) 0x0402 = true ∧
    execTo .op11 (machine 0x0800 0x07FE 0 []) 0x0800 = true ∧
    execOob .op11 (machine 0x0800 0x07FF 0 []) = true ∧
    execTo .opF3 (machine 0x0800 0x0400 0 []) 0x0402 = true ∧
    execTo .opF3 (machine 0x0800 0x07FE 0 []) 0x0800 = true ∧
    execOob .opF3 (machine 0x0800 0x07FF 0 []) = true := by decide

/-- Source: 95_test_vectors.md V-F17. -/
theorem test_exec_ind :
    execTo .op6C (machine 0x0800 0x0400 0 []) 0x0403 = true ∧
    execTo .op6C (machine 0x0800 0x07FD 0 []) 0x0800 = true ∧
    execOob .op6C (machine 0x0800 0x07FE 0 []) = true := by decide

/-- Source: 95_test_vectors.md V-F18, V-F19. -/
theorem test_exec_imm :
    execTo .op09 (machine 0x0800 0x0400 0 []) 0x0402 = true ∧
    execTo .op09 (machine 0x0800 0x07FE 0 []) 0x0800 = true ∧
    execOob .op09 (machine 0x0800 0x07FF 0 []) = true ∧
    execTo .opEB (machine 0x0800 0x0400 0 []) 0x0402 = true ∧
    execTo .opEB (machine 0x0800 0x07FE 0 []) 0x0800 = true ∧
    execOob .opEB (machine 0x0800 0x07FF 0 []) = true := by decide

/-- Source: 95_test_vectors.md V-F20, V-F21. -/
theorem test_exec_rel :
    execTo .op10 (machine 0x0800 0x0400 0 []) 0x0402 = true ∧
    execTo .op10 (machine 0x0800 0x07FE 0 []) 0x0800 = true ∧
    execOob .op10 (machine 0x0800 0x07FF 0 []) = true ∧
    execTo .opF0 (machine 0x0800 0x0400 0 []) 0x0402 = true ∧
    execTo .opF0 (machine 0x0800 0x07FE 0 []) 0x0800 = true ∧
    execOob .opF0 (machine 0x0800 0x07FF 0 []) = true := by decide

/-- Source: 95_test_vectors.md V-F22, V-F23. -/
theorem test_exec_implicit :
    execTo .op00 (machine 0x0800 0x0400 0 []) 0x0401 = true ∧
    execTo .op00 (machine 0x0800 0x07FF 0 []) 0x0800 = true ∧
    execOob .op00 (machine 0x0800 0x0800 0 []) = true ∧
    execTo .opFB (machine 0x0800 0x0400 0 []) 0x0401 = true ∧
    execTo .opFB (machine 0x0800 0x07FF 0 []) 0x0800 = true ∧
    execOob .opFB (machine 0x0800 0x0800 0 []) = true := by decide

/-! ## Step vectors -/

/-- Source: V-S4, a relative opcode is stepped over whatever `P` is. -/
theorem test_step_rel_no_branch :
    stepsTo { machine 0x0800 0x0030 0x0030 [0xD0, 0xFE] with
      regs := { a := 0, x := 0, y := 0, pc := 0x0030, sp := 0, p := 0xFF } } 0x0032 = true := by decide

/-- Source: V-S5, `OP_20` is stepped over, `SP` unchanged. -/
theorem test_step_20_no_call : stepsTo (machine 0x0800 0x0040 0x0040 [0x20, 0x00, 0x06]) 0x0043 = true := by decide

/-- Source: V-S6, the regression test of L-9. -/
theorem test_step_ind_length_3 : stepsTo (machine 0x0800 0x0050 0x0050 [0x6C, 0x34, 0x12]) 0x0053 = true := by decide

/-- Source: V-S7, the opcode byte outside the view. -/
theorem test_step_opcode_outside : stepOob (machine 4 0x0004 0 [0xEA, 0xEA, 0xEA, 0xEA]) = true := by decide

/-- Source: V-S8, the second operand byte outside the view. -/
theorem test_step_operand_outside : stepOob (machine 4 0x0002 0 [0xEA, 0xEA, 0xAD, 0x00]) = true := by decide

/-- Source: V-S9, V-S10, V-S11. -/
theorem test_step_wraps :
    stepsTo (machine 65536 0xFFFF 0xFFFF [0xEA]) 0x0000 = true ∧
    stepsTo (machine 65536 0xFFFE 0xFFFE [0xA9, 0x05]) 0x0000 = true ∧
    stepsTo (machine 65536 0xFFFD 0xFFFD [0xAD, 0x00, 0x02]) 0x0000 = true := by decide

/-- Source: V-S12a, V-S12b: the operand range is not wrapped. -/
theorem test_step_straddles_top :
    stepOob (machine 65536 0xFFFE 0xFFFE [0xAD, 0x00]) = true ∧
    stepOob (machine 65536 0xFFFF 0xFFFF [0xA9]) = true := by decide

/-- Source: V-S13a, V-S13b. -/
theorem test_step_end_of_view :
    stepsTo (machine 0x0800 0x07FD 0x07FD [0xAD, 0x00, 0x02]) 0x0800 = true ∧
    stepOob (machine 0x0800 0x0800 0x07FD [0xAD, 0x00, 0x02]) = true := by decide

/-- Source: V-S14. -/
theorem test_step_empty_view : stepOob (machine 0 0x0000 0 []) = true := by decide

/-- Source: V-S15: the registers of `machine` are this vector's. -/
theorem test_step_other_registers : stepsTo (machine 0x0800 0x0100 0x0100 [0xA9, 0x7F]) 0x0102 = true := by decide

/-- Source: V-S17a, V-S17b: no fault latch. -/
theorem test_step_retry :
    stepOob (machine 2 0x0000 0 [0xAD, 0x00]) = true ∧
    stepsTo (machine 3 0x0000 0 [0xAD, 0x00, 0x02]) 0x0003 = true := by decide

/-- Source: V-S20a, V-S20b: `PC_OVERFLOW = fault`. -/
theorem test_step_overflow_fault :
    stepOob (machineF 65536 0xFFFF 0xFFFF [0xEA]) = true ∧
    stepOob (machineF 65536 0xFFFD 0xFFFD [0xAD, 0x00, 0x02]) = true := by decide

/-- Source: V-S18: the run surface answers `NotImplemented` and touches nothing. -/
theorem test_run_not_implemented :
    serve .run (machine 0x0800 0x0000 0 [0xEA]) = (.refused .notImplemented, machine 0x0800 0x0000 0 [0xEA]) := by
  decide

/-- Source: V-S19: reset zeroes all six registers. -/
theorem test_reset_zeroes :
    (resetOp (machine 0x0800 0xC123 0 [0xEA])).regs = { a := 0, x := 0, y := 0, pc := 0, sp := 0, p := 0 } := by decide

/-- Source: 95_test_vectors.md P1, the third line of its listing. -/
theorem test_listing_line :
    ((machine 0x0800 0 4 [0xAD, 0x00, 0x02]).insnAt 4).map (Insn.line 4) =
      some { addr := 4, bytes := [0xAD, 0x00, 0x02], text := "OP_AD 00 02", mode := .abs, length := 3 } := by
  decide +kernel

/-- Source: 95_test_vectors.md P3b: `0xB9` is one byte long and shifts the boundaries. -/
theorem test_stream_boundaries :
    decodeUpTo 3 [0xB9, 0x20, 0x4C, 0xA9, 0x01, 0xEA] = .ok
      [{ instr := .opB9, operands := [] }, { instr := .op20, operands := [0x4C, 0xA9] },
       { instr := .op01, operands := [0xEA] }] := by decide +kernel

/-- A word of the opcode table placed after reset is what the first step runs (the host's own question). -/
theorem test_first_step_after_reset : stepsTo (State.reset.withFetchWord 8 0xAD) 0x0003 = true := by decide

/-- A view with a byte changed keeps its form, and writing the unlisted byte removes the cell (20_memory.md R30). -/
theorem test_place_canonical :
    (((Memory.blank.place 7 0xEA).place 3 0xA9).place 7 0x00).cells = [(3, 0xA9)] ∧
    ((Memory.blank.place 7 0xEA).place 3 0xA9).wf = true := by decide

/-! ## Witnesses: a concrete input for the hypotheses of every statement that has some -/

/-- `DecodeReadsBackEveryEncoding`, `DecodedInstructionsReencode`: a two-operand instruction and a rest. -/
theorem witness_round_trip :
    ({ instr := .opFF, operands := [0xFF, 0x00] } : Insn).wellFormed = true ∧
    decode [0xFF, 0xFF, 0x00, 0x6C] = .ok ({ instr := .opFF, operands := [0xFF, 0x00] }, [0x6C]) := by decide +kernel

/-- `DecodeRefusesOnlyShortSequences`: just enough bytes, and one too few. -/
theorem witness_decode_boundary :
    operandSize (classify 0x6C) ≤ [(0x00 : Byte), 0x00].length ∧
    decode [0x6C, 0x00] = .error .missingOperands ∧ decode [] = .error .noOpcode := by decide +kernel

/-- `StreamsDecodeUniquely`, `RunsWalkTheStreamLinearly`: three instructions, one of them a jump on a 6502. -/
def stream : List Insn :=
  [{ instr := .op4C, operands := [0x00, 0x00] }, { instr := .opD0, operands := [0xFA] }, { instr := .op60, operands := [] }]

theorem witness_stream_wellFormed : stream.all Insn.wellFormed = true := by decide

theorem witness_stream_in_view :
    (List.range (encodeAll stream).length).all (fun k =>
      decide ((encodeAll stream)[k]? = (machine 0x0800 0x0100 0x0100 (encodeAll stream)).mem.read (0x0100 + k))) = true ∧
    (machine 0x0800 0x0100 0x0100 (encodeAll stream)).regs.pc.toNat + (encodeAll stream).length < 65536 := by decide

/-- `RunsThatEndAtTheTop`: the same stream with its last byte at `0xFFFF`, under both values of `PC_OVERFLOW`. -/
theorem witness_stream_at_top :
    (List.range (encodeAll stream).length).all (fun k =>
      decide ((encodeAll stream)[k]? = (machine 65536 0xFFFA 0xFFFA (encodeAll stream)).mem.read (0xFFFA + k) ∧
        (encodeAll stream)[k]? = (machineF 65536 0xFFFA 0xFFFA (encodeAll stream)).mem.read (0xFFFA + k))) = true ∧
    (machine 65536 0xFFFA 0xFFFA (encodeAll stream)).regs.pc.toNat + (encodeAll stream).length = 65536 ∧
    (machineF 65536 0xFFFA 0xFFFA (encodeAll stream)).regs.pc.toNat + (encodeAll stream).length = 65536 ∧
    (machine 65536 0xFFFA 0xFFFA (encodeAll stream)).cfg.pcOverflow = .wrap ∧
    (machineF 65536 0xFFFA 0xFFFA (encodeAll stream)).cfg.pcOverflow = .fault := by decide

/-- `StepRunsTheDecodedInstruction`: both of its hypotheses. -/
theorem witness_step_decodes :
    (machine 3 0x0001 0 [0xEA, 0xA9, 0x05]).mem.read 1 = some (Instr.opcode .opA9) ∧
    decode ((machine 3 0x0001 0 [0xEA, 0xA9, 0x05]).mem.toBytes.drop
      (machine 3 0x0001 0 [0xEA, 0xA9, 0x05]).regs.pc.toNat) =
      .ok ({ instr := .opA9, operands := [0x05] }, []) := by decide +kernel

/-- The class statements, first clause: the last operand byte is the view's last byte; with 0, 1, 2 operand bytes. -/
theorem witness_covers_boundary :
    ((machine 0x0800 0x07FF 0 []).covers 0 ∧ (machine 0x0800 0x07FF 0 []).roomAfter 0) ∧
    ((machine 0x0800 0x07FE 0 []).covers 1 ∧ (machine 0x0800 0x07FE 0 []).roomAfter 1) ∧
    ((machine 0x0800 0x07FD 0 []).covers 2 ∧ (machine 0x0800 0x07FD 0 []).roomAfter 2) := by decide

/-- The same at the top, where the instance wraps. -/
theorem witness_covers_top :
    ((machine 65536 0xFFFF 0 []).covers 0 ∧ (machine 65536 0xFFFF 0 []).roomAfter 0) ∧
    ((machine 65536 0xFFFE 0 []).covers 1 ∧ (machine 65536 0xFFFE 0 []).roomAfter 1) ∧
    ((machine 65536 0xFFFD 0 []).covers 2 ∧ (machine 65536 0xFFFD 0 []).roomAfter 2) := by decide

/-- The class statements, second clause: the last operand byte is the first address outside. -/
theorem witness_not_covered :
    (machine 0x0800 0x0800 0 []).mem.len.val ≤ (machine 0x0800 0x0800 0 []).regs.pc.toNat + 0 ∧
    (machine 0x0800 0x07FF 0 []).mem.len.val ≤ (machine 0x0800 0x07FF 0 []).regs.pc.toNat + 1 ∧
    (machine 0x0800 0x07FE 0 []).mem.len.val ≤ (machine 0x0800 0x07FE 0 []).regs.pc.toNat + 2 := by decide

/-- The class statements, third clause, and that the first clause does not apply there. -/
theorem witness_overflow_fault :
    ((machineF 65536 0xFFFF 0 []).regs.pc.toNat + 0 + 1 = 65536 ∧ (machineF 65536 0xFFFF 0 []).cfg.pcOverflow = .fault ∧
      ¬ (machineF 65536 0xFFFF 0 []).roomAfter 0) ∧
    ((machineF 65536 0xFFFE 0 []).regs.pc.toNat + 1 + 1 = 65536 ∧ ¬ (machineF 65536 0xFFFE 0 []).roomAfter 1) ∧
    ((machineF 65536 0xFFFD 0 []).regs.pc.toNat + 2 + 1 = 65536 ∧ ¬ (machineF 65536 0xFFFD 0 []).roomAfter 2) := by
  decide

/-- `StepFailsWhereDecodingFails`, `OutOfBoundsInExactlyTwoSituations`, `EveryOpcodeIsSteppedOverByItsLength`: an
instance that wraps, with a step that succeeds and one that fails; and a request that is no step. -/
theorem witness_wrapping_instance :
    (machine 4 0x0002 0 [0xEA, 0xEA, 0xAD, 0x00]).cfg.pcOverflow = .wrap ∧
    stepOob (machine 4 0x0002 0 [0xEA, 0xEA, 0xAD, 0x00]) = true ∧
    stepsTo (machine 4 0x0001 0 [0xEA, 0xEA, 0xAD, 0x00]) 0x0002 = true ∧ Request.reset ≠ .step := by decide

/-- `AdvancementLaw` at the end of the view, and just below the top of the address space. -/
theorem witness_advancement :
    ((machine 3 0x0000 0 [0xAD, 0x00, 0x02]).mem.read 0 = some 0xAD ∧
      0 + operandSize (classify 0xAD) + 1 ≤ (machine 3 0x0000 0 [0xAD, 0x00, 0x02]).mem.len.val) ∧
    ((machine 65536 0xFFFC 0xFFFC [0xAD]).mem.read (machine 65536 0xFFFC 0xFFFC [0xAD]).regs.pc.toNat = some 0xAD ∧
      (machine 65536 0xFFFC 0xFFFC [0xAD]).regs.pc.toNat + operandSize (classify 0xAD) + 1 < 65536) := by decide

/-- `BoundsLaw`, both clauses at their boundary. -/
theorem witness_bounds :
    (machine 4 0x0004 0 []).mem.len.val ≤ (machine 4 0x0004 0 []).regs.pc.toNat ∧
    ((machine 2 0x0000 0 [0xAD, 0x00]).mem.read (machine 2 0x0000 0 [0xAD, 0x00]).regs.pc.toNat = some 0xAD ∧
      (machine 2 0x0000 0 [0xAD, 0x00]).mem.len.val ≤
        (machine 2 0x0000 0 [0xAD, 0x00]).regs.pc.toNat + operandSize (classify 0xAD)) := by decide

/-- `TopOfAddressSpace`, its three clauses. -/
theorem witness_top :
    ((machine 65536 0xFFFE 0xFFFE [0xA9]).mem.read (machine 65536 0xFFFE 0xFFFE [0xA9]).regs.pc.toNat = some 0xA9 ∧
      (machine 65536 0xFFFE 0xFFFE [0xA9]).regs.pc.toNat + operandSize (classify 0xA9) + 1 = 65536 ∧
      (machine 65536 0xFFFE 0xFFFE [0xA9]).cfg.pcOverflow = .wrap) ∧
    ((machineF 65536 0xFFFE 0xFFFE [0xA9]).mem.read (machineF 65536 0xFFFE 0xFFFE [0xA9]).regs.pc.toNat = some 0xA9 ∧
      (machineF 65536 0xFFFE 0xFFFE [0xA9]).cfg.pcOverflow = .fault) ∧
    ((machine 65536 0xFFFF 0xFFFF [0xA9]).mem.read (machine 65536 0xFFFF 0xFFFF [0xA9]).regs.pc.toNat = some 0xA9 ∧
      65536 < (machine 65536 0xFFFF 0xFFFF [0xA9]).regs.pc.toNat + operandSize (classify 0xA9) + 1) := by decide

/-- `StepMutatesOnlyThePc`, `NoInstructionHasAnEffectButItsLength`, `ProgramCounterMovesForwardOrWraps`: an instruction
and a step that answer a next state, moving forward and wrapping. -/
theorem witness_next_state :
    execTo .op20 (machine 0x0800 0x0040 0x0040 [0x20, 0x00, 0x06]) 0x0043 = true ∧
    stepsTo (machine 0x0800 0x0040 0x0040 [0x20, 0x00, 0x06]) 0x0043 = true ∧
    stepsTo (machine 65536 0xFFFF 0xFFFF [0xEA]) 0x0000 = true := by decide

/-- `FailedStepLeavesNoTraceAndMayBeRetried`: a failing step, and a view that covers the instruction. -/
theorem witness_retry :
    stepOob (machine 2 0x0000 0 [0xAD, 0x00]) = true ∧
    (machine 3 0x0000 0 [0xAD, 0x00, 0x02]).mem.read 0 = some 0xAD ∧
    0 + operandSize (classify 0xAD) < (machine 3 0x0000 0 [0xAD, 0x00, 0x02]).mem.len.val ∧
    (machine 2 0x0000 0 [0xAD, 0x00]).cfg.pcOverflow = .wrap := by decide

/-- `StepIsAFunctionOfPcAndView`, `StepReadsOnlyTheOpcodeByte`: two different states that agree where they must. -/
theorem witness_two_states :
    machine 3 0x0000 0 [0xAD, 0x00, 0x02] ≠ machine 3 0x0000 0 [0xAD, 0xFF, 0x6C] ∧
    (machine 3 0x0000 0 [0xAD, 0x00, 0x02]).mem.read 0 = (machine 3 0x0000 0 [0xAD, 0xFF, 0x6C]).mem.read 0 ∧
    resetOp (machine 3 0x0000 0 [0xAD]) ≠ machine 3 0x0000 0 [0xAD] ∧
    (resetOp (machine 3 0x0000 0 [0xAD])).regs.pc = (machine 3 0x0000 0 [0xAD]).regs.pc := by decide

/-- `MemReadBounds`, `SuppliedViewIsWhatTheNextStepFetches`: a short array, and one too long. -/
theorem witness_views :
    [(0xEA : Byte)].length ≤ 65536 ∧ 65536 < (List.replicate 65537 (0x00 : Byte)).length :=
  ⟨by decide, by rw [List.length_replicate]; omega⟩

/-- `CanonicalViewsThatReadAlikeAreEqual`, `ResetStateMeetsTheInvariant`, `NoDriverCanMakeAnotherRegisterNonzero`: a
canonical view with something listed. -/
theorem witness_canonical_view : (machine 0x0800 0 0x0100 [0xA9, 0x00, 0x6C]).mem.wf = true := by decide

/-- `EveryRequestKeepsTheInvariant`: a step that fails and a request that is refused, the premises of its last clause, in a
state that meets the invariant. -/
theorem witness_request :
    (State.create Config.standard { len := 1, cells := [(0, 0xA9)] }).Inv ∧
    (serve .step (State.create Config.standard { len := 1, cells := [(0, 0xA9)] })).1 = .failed .outOfBounds ∧
    (serve .run (State.create Config.standard { len := 1, cells := [(0, 0xA9)] })).1 = .refused .notImplemented :=
  ⟨⟨rfl, rfl, rfl, rfl, rfl, rfl⟩, by decide, by decide⟩

/-- `EveryStepKeepsTheInvariant`: a state that meets the invariant and steps. -/
theorem witness_invariant :
    (State.create Config.standard { len := 2, cells := [(0, 0xA9), (1, 0x05)] }).Inv ∧
    stepsTo (State.create Config.standard { len := 2, cells := [(0, 0xA9), (1, 0x05)] }) 0x0002 = true :=
  ⟨⟨rfl, rfl, rfl, rfl, rfl, rfl⟩, by decide⟩

/-- `ShortViewEndsEveryRun`: the longest view it speaks of, and the empty one. -/
theorem witness_short_view :
    (machine 65535 0x0000 0 []).mem.len.val < 65536 ∧ (machine 0 0x0000 0 []).mem.len.val < 65536 := by decide

/-- `PlacedWordIsTheNextInstructionRun`: reset, and the highest program counter it speaks of. -/
theorem witness_placed_word :
    (State.reset.mem.wf = true ∧ State.reset.regs.pc.toNat + 3 < 65536) ∧
    (machine 0 0xFFFC 0 []).mem.wf = true ∧ (machine 0 0xFFFC 0 []).regs.pc.toNat + 3 < 65536 := by decide

end Sys2Proof.Tests
end

section
/-! # The state and the driver: the invariant and the operations that keep it

The rules of the family `10_state.md`: what a driver can bring about. One rule per operation (`setPc`, `step`,
`supplyView`, `settleOutcome`), then one induction over a driver's requests (`serveAll_keeps`). -/

namespace Sys2Proof.Machine

/-! ## The invariant under each change of the state -/

/-- Registers as at creation over a canonical view meet the invariant (10_state.md R17, R18). -/
theorem State.inv_of_regs_zero {s : State} (hwf : s.mem.wf = true) (hregs : s.regs = Registers.zero) : s.Inv := by
  simp [State.Inv, hwf, hregs, Registers.zero]

/-- The invariant does not speak of the program counter. -/
@[simp] theorem State.inv_setPc (s : State) (v : Addr) : (s.setPc v).Inv ↔ s.Inv := Iff.rfl

/-- Another canonical view keeps the invariant. -/
theorem State.Inv.withView {s : State} {m : Memory} (h : s.Inv) (hm : m.wf = true) : State.Inv { s with mem := m } :=
  ⟨hm, h.2⟩

/-- The invariant together with the constants of the creation, which no operation writes (10_state.md R19). -/
def State.InvWith (c : Config) (s : State) : Prop := s.Inv ∧ s.cfg = c

theorem State.invWith_create (c : Config) {v : Memory} (hwf : v.wf = true) : (State.create c v).InvWith c :=
  ⟨State.inv_of_regs_zero hwf rfl, rfl⟩

theorem State.InvWith.reset {c : Config} {s : State} (h : s.InvWith c) : (resetOp s).InvWith c :=
  ⟨State.inv_of_regs_zero h.1.1 rfl, h.2⟩

/-! ## What the operations answer -/

/-- A successful step moves the program counter past an instruction that lies inside the view, and does nothing else
(40_step.md R91, R94). -/
theorem step_next {s t : State} (h : step s = .next t) :
    ∃ n, s.regs.pc.toNat + n < s.mem.len.val ∧ t = s.setPc (BitVec.ofNat 16 (s.regs.pc.toNat + n + 1)) := by
  rcases step_cases s with ⟨_, hfault⟩ | ⟨op, _, hadv⟩
  · rw [hfault] at h
    cases h
  · exact ⟨operandSize (classify op), advance_next (hadv ▸ h)⟩

/-- The low 16 bits of the address after the last byte of an instruction inside the view are at most `MEMLEN`: where
the sum is 65536 they are zero (40_step.md R96). -/
theorem toNat_ofNat_succ_le {p len : Nat} (h : p < len) : (BitVec.ofNat 16 (p + 1)).toNat ≤ len :=
  calc (BitVec.ofNat 16 (p + 1)).toNat = (p + 1) % 2 ^ 16 := BitVec.toNat_ofNat ..
    _ ≤ p + 1 := Nat.mod_le ..
    _ ≤ len := h

theorem State.InvWith.step {c : Config} {s t : State} (h : s.InvWith c) (hstep : step s = .next t) : t.InvWith c := by
  obtain ⟨n, _, rfl⟩ := step_next hstep
  exact ⟨(s.inv_setPc _).2 h.1, h.2⟩

/-- A view that is taken is canonical, and it is all that changes (20_memory.md R41). -/
theorem supplyView_next {bytes : List Byte} {s t : State} (h : supplyView bytes s = .next t) :
    ∃ m : Memory, m.wf = true ∧ t = { s with mem := m } := by
  unfold supplyView at h
  split at h
  next m hm =>
    cases h
    exact ⟨m, Memory.wf_ofBytes hm, rfl⟩
  next => cases h

theorem State.InvWith.supplyView {c : Config} {bytes : List Byte} {s t : State} (h : s.InvWith c)
    (hview : supplyView bytes s = .next t) : t.InvWith c := by
  obtain ⟨m, hm, rfl⟩ := supplyView_next hview
  exact ⟨h.1.withView hm, h.2⟩

/-! ## Transactions -/

/-- What holds before an operation and of every state it can answer holds after its transaction, because a condition or
a refusal leaves the state before (60_exceptions.md R112, R113). -/
theorem settleOutcome_keeps {P : State → Prop} {s : State} {o : Host.Outcome State Fault Refusal} (hs : P s)
    (hnext : ∀ t, o = .next t → P t) : P (settleOutcome s o).2 := by
  cases o with
  | next t => exact hnext t rfl
  | fault f => exact hs
  | refused why => exact hs

/-- The replies that say an operation had no effect: a condition and a refusal. -/
def Reply.Stopped (r : Reply) : Prop := (∃ f, r = .failed f) ∨ (∃ why, r = .refused why)

theorem settleOutcome_of_stopped {s : State} {o : Host.Outcome State Fault Refusal}
    (h : (settleOutcome s o).1.Stopped) : (settleOutcome s o).2 = s := by
  cases o with
  | next t => simp [Reply.Stopped, settleOutcome] at h
  | fault f => rfl
  | refused why => rfl

/-- The state after a condition or a refusal is the state before (60_exceptions.md R112, R115). -/
theorem serve_of_stopped {r : Request} {s : State} (h : (serve r s).1.Stopped) : (serve r s).2 = s := by
  cases r with
  | classify op => rfl
  | operandSize m => rfl
  | supplyView bytes => exact settleOutcome_of_stopped h
  | step => exact settleOutcome_of_stopped h
  | reset => simp [Reply.Stopped, serve] at h
  | run => rfl

/-- Every request keeps the invariant and the constants. -/
theorem State.InvWith.serve {c : Config} {s : State} (h : s.InvWith c) (r : Request) : (serve r s).2.InvWith c := by
  cases r with
  | classify op => exact h
  | operandSize m => exact h
  | supplyView bytes => exact settleOutcome_keeps h fun _ => h.supplyView
  | step => exact settleOutcome_keeps h fun _ => h.step
  | reset => exact h.reset
  | run => exact h

/-- What every request keeps, every sequence of requests keeps. -/
theorem serveAll_keeps {P : State → Prop} (hserve : ∀ r s, P s → P (serve r s).2) (rs : List Request) {s : State}
    (hs : P s) : P (serveAll rs s) := by
  induction rs generalizing s with
  | nil => exact hs
  | cons r rs ih => exact ih (hserve r s hs)

/-! ## The obligations -/

/-- Settles O47: a step that answers only moves the program counter, to at most the end of the view. -/
theorem everyStepKeepsTheInvariant : Obligations.EveryStepKeepsTheInvariant := by
  unfold Obligations.EveryStepKeepsTheInvariant
  intro s t hs hstep
  obtain ⟨n, hin, rfl⟩ := step_next hstep
  exact ⟨(s.inv_setPc _).2 hs, rfl, rfl, toNat_ofNat_succ_le hin⟩

/-- Settles O56, by the invariant and the stopped replies of one transaction. -/
theorem everyRequestKeepsTheInvariant : Obligations.EveryRequestKeepsTheInvariant := by
  unfold Obligations.EveryRequestKeepsTheInvariant
  intro r s hs
  have hwith : s.InvWith s.cfg := ⟨hs, rfl⟩
  obtain ⟨hinv, hcfg⟩ := hwith.serve r
  exact ⟨hinv, hcfg, serve_of_stopped⟩

/-- Settles O48, by induction over the requests from the creation. -/
theorem noDriverCanMakeAnotherRegisterNonzero : Obligations.NoDriverCanMakeAnotherRegisterNonzero := by
  unfold Obligations.NoDriverCanMakeAnotherRegisterNonzero
  intro c v rs hwf
  exact serveAll_keeps (P := State.InvWith c) (fun r _ hs => hs.serve r) rs (State.invWith_create c hwf)

/-- Settles O1: reset, creation and the reset operation all write `Registers.zero` and nothing else. -/
theorem resetZeroesEveryRegister : Obligations.ResetZeroesEveryRegister :=
  ⟨rfl, fun _ _ => rfl, fun _ => rfl⟩

/-- Settles O46. -/
theorem resetStateMeetsTheInvariant : Obligations.ResetStateMeetsTheInvariant :=
  ⟨State.inv_of_regs_zero Memory.wf_blank rfl, fun c _ hwf => (State.invWith_create c hwf).1⟩

/-- Settles O53: the pure requests are answered by the pure functions, a reset from every state. -/
theorem pureRequestsChangeNothing : Obligations.PureRequestsChangeNothing :=
  ⟨fun _ _ => rfl, fun m _ => ⟨rfl, operandSize_le m⟩, fun _ => rfl⟩

end Sys2Proof.Machine
end

section
/-! # The memory view as an array of bytes, and what a step sees of it

The rules of the family `20_memory.md`. The view is its byte array and nothing else: reads, `toBytes` and `ofBytes`
agree at every address, inside and outside (R30, R32), and the canonical form is unique. Of that array a step sees one
byte and a length (R31, R33). -/

namespace Sys2Proof

/-- The decoder refuses exactly when operand bytes are missing; no opcode value is a reason (30_encoding.md R72). -/
theorem decode_cons_error_iff (op : Byte) (rest : List Byte) :
    (∃ r, decode (op :: rest) = .error r) ↔ rest.length < operandSize (classify op) := by
  rw [decode_cons]
  split
  next hle => simpa using hle
  next hlt => simpa using hlt

namespace Machine

namespace Memory

/-! ## Reads and the byte array -/

/-- A read inside the view gives a byte, a read at or above `MEMLEN` gives none (20_memory.md R32). -/
theorem exists_read_iff (m : Memory) (a : Nat) : (∃ b, m.read a = some b) ↔ a < m.len.val := by
  rw [← Option.ne_none_iff_exists', ne_eq, read_eq_none_iff, Nat.not_le]

@[simp] theorem length_toBytes (m : Memory) : m.toBytes.length = m.len.val := by
  simp [toBytes]

/-- `MemRead` is indexing of the byte array, outside it as well as inside. -/
@[simp] theorem getElem?_toBytes (m : Memory) (a : Nat) : m.toBytes[a]? = m.read a := by
  unfold toBytes read
  split <;> simp [*]

/-- The bytes from an address inside the view on start with the byte read there. -/
theorem drop_toBytes_of_read {m : Memory} {a : Nat} {b : Byte} (h : m.read a = some b) :
    m.toBytes.drop a = b :: m.toBytes.drop (a + 1) := by
  rw [← getElem?_toBytes] at h
  obtain ⟨hlt, rfl⟩ := List.getElem?_eq_some_iff.mp h
  exact List.drop_eq_getElem_cons hlt

/-- An array within the bound of 20_memory.md R30 makes a view of its length that reads as the array does. -/
theorem exists_ofBytes {bs : List Byte} (h : bs.length ≤ 65536) :
    ∃ m, ofBytes bs = some m ∧ m.len.val = bs.length ∧ ∀ a, m.read a = bs[a]? := by
  refine ⟨_, dif_pos (Nat.lt_succ_of_le h), rfl, fun a => ?_⟩
  have hlookup := lookup_cellsOf 0 bs a
  rw [Nat.zero_add] at hlookup
  unfold read
  split
  next hlt => rw [hlookup, List.getElem?_eq_getElem hlt, Option.getD_some]
  next hge => rw [List.getElem?_eq_none (Nat.le_of_not_lt hge)]

theorem ofBytes_eq_none {bs : List Byte} (h : 65536 < bs.length) : ofBytes bs = none :=
  dif_neg (Nat.not_lt_of_le h)

/-- A view is determined as a byte array by its reads. -/
theorem toBytes_eq_of_read {m : Memory} {bs : List Byte} (h : ∀ a, m.read a = bs[a]?) : m.toBytes = bs :=
  List.ext_getElem? fun a => (m.getElem?_toBytes a).trans (h a)

/-! ## The canonical form is unique -/

/-- At and above its bound a canonical list lists nothing. -/
theorem lookup_above {len lo a : Nat} {cs : List Host.Cell} (h : cellsWf len lo cs = true) (ha : len ≤ a) :
    lookup cs a = unlisted := by
  induction cs generalizing lo with
  | nil => rfl
  | cons c rest ih =>
    obtain ⟨k, b⟩ := c
    obtain ⟨_, hk, _, hrest⟩ := (cellsWf_cons ..).mp h
    rw [lookup, if_neg (by omega)]
    exact ih hrest

@[simp] theorem lookup_cons_self (k : Nat) (b : Byte) (rest : List Host.Cell) : lookup ((k, b) :: rest) k = b :=
  if_pos rfl

/-- Of two canonical lists that read alike, the second starts no higher than the first: the byte the first lists there
is not what the second reads below its start. -/
theorem head_le_of_lookup_eq {len len' lo lo' k k' : Nat} {b b' : Byte} {rest rest' : List Host.Cell}
    (h : cellsWf len lo ((k, b) :: rest) = true) (h' : cellsWf len' lo' ((k', b') :: rest') = true)
    (hread : ∀ a, lookup ((k, b) :: rest) a = lookup ((k', b') :: rest') a) : k' ≤ k := by
  obtain ⟨_, _, hb, _⟩ := (cellsWf_cons ..).mp h
  obtain ⟨_, hk', hb', hrest'⟩ := (cellsWf_cons ..).mp h'
  by_contra hlt
  have hlow : cellsWf len' k' ((k', b') :: rest') = true := (cellsWf_cons ..).mpr ⟨Nat.le_refl _, hk', hb', hrest'⟩
  exact hb (by rw [← lookup_cons_self k b rest, hread, lookup_below hlow (Nat.lt_of_not_le hlt)])

/-- Canonical lists that read alike have the same cells. -/
theorem cells_eq_of_lookup_eq {len len' lo lo' : Nat} {cs cs' : List Host.Cell} (h : cellsWf len lo cs = true)
    (h' : cellsWf len' lo' cs' = true) (hread : ∀ a, lookup cs a = lookup cs' a) : cs = cs' := by
  induction cs generalizing lo lo' cs' with
  | nil =>
    cases cs' with
    | nil => rfl
    | cons c' rest' =>
      obtain ⟨k', b'⟩ := c'
      obtain ⟨_, _, hb', _⟩ := (cellsWf_cons ..).mp h'
      exact absurd ((hread k').trans (lookup_cons_self ..)).symm hb'
  | cons c rest ih =>
    obtain ⟨k, b⟩ := c
    obtain ⟨_, _, hb, hrest⟩ := (cellsWf_cons ..).mp h
    cases cs' with
    | nil => exact absurd ((lookup_cons_self ..).symm.trans (hread k)) hb
    | cons c' rest' =>
      obtain ⟨k', b'⟩ := c'
      obtain ⟨_, _, _, hrest'⟩ := (cellsWf_cons ..).mp h'
      obtain rfl : k = k' :=
        Nat.le_antisymm (head_le_of_lookup_eq h' h fun a => (hread a).symm) (head_le_of_lookup_eq h h' hread)
      obtain rfl : b = b' := by simpa using hread k
      have htail : ∀ a, lookup rest a = lookup rest' a := fun a => by
        by_cases ha : k = a
        · rw [lookup_below hrest (by omega), lookup_below hrest' (by omega)]
        · simpa [lookup, ha] using hread a
      rw [ih hrest hrest' htail]

/-- Canonical views of one length that read alike list alike, at the addresses outside them too. -/
theorem lookup_eq_of_read_eq {m m' : Memory} (h : m.wf = true) (h' : m'.wf = true) (hlen : m.len = m'.len)
    (hread : ∀ a, m.read a = m'.read a) (a : Nat) : lookup m.cells a = lookup m'.cells a := by
  by_cases ha : a < m.len.val
  · have hin := hread a
    rw [read, read, ← hlen, if_pos ha, if_pos ha] at hin
    exact Option.some.inj hin
  · rw [lookup_above h (Nat.le_of_not_lt ha), lookup_above h' (hlen ▸ Nat.le_of_not_lt ha)]

end Memory

/-! ## What a step sees of the view -/

/-- When `advance` raises (40_step.md R93, R96). -/
theorem advance_fault_iff (n : Nat) (s : State) :
    advance n s = .fault .outOfBounds ↔
      s.mem.len.val ≤ s.regs.pc.toNat + n ∨ (s.regs.pc.toNat + n + 1 = 65536 ∧ s.cfg.pcOverflow = .fault) := by
  rcases advance_cases n s with ⟨hout, h⟩ | ⟨_, htop, hcfg, h⟩ | ⟨hin, hroom, h⟩
  · simp [h, hout]
  · simp [h, htop, hcfg]
  · have htop : ¬ (s.regs.pc.toNat + n + 1 = 65536 ∧ s.cfg.pcOverflow = .fault) := by
      rintro ⟨hsum, hcfg⟩
      simp [hsum, hcfg] at hroom
    simp only [h, reduceCtorEq, Nat.not_le.mpr hin, htop, or_self]

/-- Where `advance` does not raise, it moves the program counter. -/
theorem advance_of_not_fault {n : Nat} {s : State} (h : advance n s ≠ .fault .outOfBounds) :
    advance n s = .next (s.setPc (BitVec.ofNat 16 (s.regs.pc.toNat + n + 1))) := by
  rcases advance_cases n s with ⟨_, hfault⟩ | ⟨_, _, _, hfault⟩ | ⟨_, _, hnext⟩
  · exact absurd hfault h
  · exact absurd hfault h
  · exact hnext

/-- Two outcomes a driver cannot tell apart by the registers: both succeed with the same registers, or both raise. -/
def SameRegisters (o o' : Host.Outcome State Fault Refusal) : Prop :=
  (∃ s' u', o = .next s' ∧ o' = .next u' ∧ s'.regs = u'.regs) ∨
    (o = .fault .outOfBounds ∧ o' = .fault .outOfBounds)

/-- Of the view `advance` looks at the length only (20_memory.md R33). -/
theorem advance_sameRegisters (n : Nat) {s u : State} (hregs : s.regs = u.regs)
    (hcfg : s.cfg.pcOverflow = u.cfg.pcOverflow) (hlen : s.mem.len = u.mem.len) :
    SameRegisters (advance n s) (advance n u) := by
  have hiff : advance n s = .fault .outOfBounds ↔ advance n u = .fault .outOfBounds := by
    rw [advance_fault_iff, advance_fault_iff, hregs, hcfg, hlen]
  by_cases hs : advance n s = .fault .outOfBounds
  · exact .inr ⟨hs, hiff.mp hs⟩
  · exact .inl ⟨_, _, advance_of_not_fault hs, advance_of_not_fault (mt hiff.mpr hs), by simp [State.setPc, hregs]⟩

/-! ## The obligations -/

/-- Settles O16: without an opcode byte both fail, and with one both fail exactly when the operand bytes are not all
in the view. -/
theorem stepFailsWhereDecodingFails : Obligations.StepFailsWhereDecodingFails := by
  unfold Obligations.StepFailsWhereDecodingFails
  intro s hwrap
  rcases step_cases s with ⟨hnone, hstep⟩ | ⟨op, hop, hstep⟩
  · have hnil : s.mem.toBytes.drop s.regs.pc.toNat = [] :=
      List.drop_eq_nil_of_le (by simpa using (fetch_eq_none_iff s).mp hnone)
    simp [hstep, hnil, decode]
  · have hlt : s.regs.pc.toNat < s.mem.len.val := (s.mem.exists_read_iff _).mp ⟨op, hop⟩
    rw [hstep, advance_fault_iff, Memory.drop_toBytes_of_read hop, decode_cons_error_iff]
    simp only [hwrap, reduceCtorEq, and_false, or_false, List.length_drop, Memory.length_toBytes]
    omega

/-- Settles O41: the opcode byte fixes the operand size, and the advance over it sees only the length of the view. -/
theorem stepReadsOnlyTheOpcodeByte : Obligations.StepReadsOnlyTheOpcodeByte := by
  unfold Obligations.StepReadsOnlyTheOpcodeByte
  intro s u hregs hcfg hlen hread
  have hfetch : fetch u = fetch s := hread.symm
  rcases step_cases s with ⟨hnone, hs⟩ | ⟨op, hop, hs⟩
  · exact .inr ⟨hs, step_of_fetch_none (hfetch.trans hnone)⟩
  · rw [hs, step_of_fetch (hfetch.trans hop)]
    exact advance_sameRegisters _ hregs hcfg hlen

/-- Settles O42: the array of a view is the one `ofBytes` was given, and where there is no opcode byte a step raises. -/
theorem memReadBounds : Obligations.MemReadBounds :=
  ⟨fun _ hlen => Memory.exists_ofBytes hlen, Memory.exists_read_iff,
    fun s hout => step_of_fetch_none ((fetch_eq_none_iff s).mpr hout)⟩

/-- Settles O43: the view handed over is the one `ofBytes` makes. -/
theorem suppliedViewIsWhatTheNextStepFetches : Obligations.SuppliedViewIsWhatTheNextStepFetches := by
  unfold Obligations.SuppliedViewIsWhatTheNextStepFetches
  constructor
  · intro bs s hle
    obtain ⟨m, hm, _, hread⟩ := Memory.exists_ofBytes hle
    have hserve : serve (.supplyView bs) s = (.ok, { s with mem := m }) := by
      simp [serve, supplyView, hm, settleOutcome]
    exact ⟨_, hserve, Memory.wf_ofBytes hm, Memory.toBytes_eq_of_read hread, rfl, rfl, hread _⟩
  · intro bs s hlong
    simp [serve, supplyView, Memory.ofBytes_eq_none hlong, settleOutcome]

/-- Settles O44: alike reads make alike lookups, and a canonical list is determined by its lookups. -/
theorem canonicalViewsThatReadAlikeAreEqual : Obligations.CanonicalViewsThatReadAlikeAreEqual := by
  unfold Obligations.CanonicalViewsThatReadAlikeAreEqual
  intro m m' hwf hwf' hlen hread
  have hlookup := Memory.lookup_eq_of_read_eq hwf hwf' hlen hread
  exact congrArg₂ Memory.mk hlen (Memory.cells_eq_of_lookup_eq hwf hwf' hlookup)

end Machine

end Sys2Proof
end

section
/-! # The opcode byte, the classifier and the size table

The rules of the family `30_encoding.md` about one opcode byte. Every slice of the opcode is a quotient or a remainder
of it as a number (R51, R52). The twelve tests give each opcode to exactly one tag (R66), so a tag's opcodes are those
its test claims (`classify_eq_iff_claims`), and a walk over the 256 bytes lists them (`classify_eq_iff_mem`). What is
said of masks and overlaps is checked on each byte, as the spec derives R78. -/

namespace Sys2Proof

/-! ## The slices of the opcode as numbers -/

@[simp] theorem hField_toNat (op : Byte) : (hField op).toNat = op.toNat / 32 := by
  have := op.isLt
  rw [hField, BitVec.extractLsb'_toNat, Nat.shiftRight_eq_div_pow]
  omega

@[simp] theorem lField_toNat (op : Byte) : (lField op).toNat = op.toNat % 32 := by
  simp [lField]

@[simp] theorem hHigh2_toNat (op : Byte) : (hHigh2 op).toNat = op.toNat / 32 / 2 := by
  have := op.isLt
  rw [hHigh2, BitVec.extractLsb'_toNat, Nat.shiftRight_eq_div_pow, hField_toNat]
  omega

@[simp] theorem lHigh3_toNat (op : Byte) : (lHigh3 op).toNat = op.toNat % 32 / 4 := by
  rw [lHigh3, BitVec.extractLsb'_toNat, Nat.shiftRight_eq_div_pow, lField_toNat]
  omega

@[simp] theorem lHigh4_toNat (op : Byte) : (lHigh4 op).toNat = op.toNat % 32 / 2 := by
  rw [lHigh4, BitVec.extractLsb'_toNat, Nat.shiftRight_eq_div_pow, lField_toNat]
  omega

/-- `h[2]`, the top bit of the opcode. -/
@[simp] theorem hField_top (op : Byte) : (hField op)[2] = true ↔ 4 ≤ op.toNat / 32 := by
  have := op.isLt
  rw [BitVec.getElem_eq_testBit_toNat, hField_toNat, Nat.testBit_eq_decide_div_mod_eq, decide_eq_true_iff]
  omega

/-- Clearing bit 1 takes away 2 where that bit is set. -/
@[simp] theorem lMasked_toNat (op : Byte) : (lMasked op).toNat = op.toNat % 32 - 2 * (op.toNat % 32 / 2 % 2) := by
  have hclear : ∀ l : BitVec 5, (l &&& ~~~0b00010#5).toNat = l.toNat - 2 * (l.toNat / 2 % 2) := by decide
  rw [lMasked, hclear, lField_toNat]

/-! ## Which opcodes a tag is given to -/

theorem AddrMode.mem_all (m : AddrMode) : m ∈ AddrMode.all := by
  cases m <;> decide

/-- Which opcodes a tag claims by the rules R54 to R65: those its test matches, less those of the earlier test that
overlaps with it, where there is one (R78); `implicit` claims what no test matches. -/
def AddrMode.claims (op : Byte) : AddrMode → Bool
  | .ind => test1 op
  | .zeroPage => test2 op
  | .zeroPageY => test3 op
  | .zeroPageX => test4 op && !test3 op
  | .abs => test5 op && !test1 op
  | .imm => test6 op
  | .rel => test7 op
  | .indIdxX => test8 op
  | .indIdxY => test9 op
  | .absIdxY => test10 op
  | .absIdxX => test11 op && !test10 op
  | .implicit =>
    [test1 op, test2 op, test3 op, test4 op, test5 op, test6 op, test7 op, test8 op, test9 op, test10 op,
      test11 op] == List.replicate 11 false

/-- Exactly one tag claims an opcode, the one `classify` gives (30_encoding.md R66). -/
theorem filter_claims (op : Byte) : AddrMode.all.filter (AddrMode.claims op) = [classify op] := by
  decide +revert +kernel

theorem classify_eq_iff_claims (op : Byte) (m : AddrMode) : classify op = m ↔ m.claims op = true :=
  calc classify op = m ↔ m ∈ [classify op] := by rw [List.mem_singleton, eq_comm]
    _ ↔ m ∈ AddrMode.all.filter (AddrMode.claims op) := by rw [filter_claims]
    _ ↔ m.claims op = true := by rw [List.mem_filter, and_iff_right m.mem_all]

/-- The opcodes that get a tag, in ascending order. -/
def AddrMode.opcodes (m : AddrMode) : List Byte :=
  ((List.range 256).map (BitVec.ofNat 8)).filter fun op => classify op = m

theorem AddrMode.mem_opcodes (m : AddrMode) (op : Byte) : op ∈ m.opcodes ↔ classify op = m := by
  have hop : op ∈ (List.range 256).map (BitVec.ofNat 8) :=
    List.mem_map.mpr ⟨op.toNat, List.mem_range.mpr op.isLt, BitVec.ofNat_toNat ..⟩
  rw [opcodes, List.mem_filter, and_iff_right hop, decide_eq_true_iff]

theorem classify_eq_iff_mem {m : AddrMode} {ops : List Byte} (h : m.opcodes = ops) (op : Byte) :
    classify op = m ↔ op ∈ ops := by
  rw [← h, m.mem_opcodes]

/-! ## The obligations -/

/-- Settles O2: quotient and remainder by 32 make the number again. -/
theorem opcodeIsTheTwoFields : Obligations.OpcodeIsTheTwoFields := by
  unfold Obligations.OpcodeIsTheTwoFields
  intro op
  rw [hField_toNat, lField_toNat]
  exact ⟨rfl, rfl, (Nat.div_add_mod ..).symm⟩

/-- Settles O3: read as numbers, the slices make the twelve tests the twelve conditions, in the same order. -/
theorem classifierAppliesTheTestsInOrder : Obligations.ClassifierAppliesTheTestsInOrder := by
  unfold Obligations.ClassifierAppliesTheTestsInOrder
  intro op
  simp [classify, test1, test2, test3, test4, test5, test6, test7, test8, test9, test10, test11, ← BitVec.toNat_inj]

/-- Settles O4, test by test: its mask on every byte, the walk that lists what it claims, and its claim. -/
theorem testsMatchAndClaimTheListedOpcodes : Obligations.TestsMatchAndClaimTheListedOpcodes := by
  unfold Obligations.TestsMatchAndClaimTheListedOpcodes
  have hzeroPageX (op : Byte) : classify op = .zeroPageX ↔ test4 op = true ∧ test3 op = false := by
    simp [classify_eq_iff_claims, AddrMode.claims]
  have habsIdxX (op : Byte) : classify op = .absIdxX ↔ test11 op = true ∧ test10 op = false := by
    simp [classify_eq_iff_claims, AddrMode.claims]
  exact ⟨
    -- T2
    by decide +kernel, classify_eq_iff_mem (by decide +kernel), fun op => classify_eq_iff_claims op .zeroPage,
    -- T3, and that T4 matches all it matches
    by decide +kernel, classify_eq_iff_mem (by decide +kernel), fun op => classify_eq_iff_claims op .zeroPageY,
    by decide +kernel,
    -- T4, and how many opcodes it matches
    by decide +kernel, classify_eq_iff_mem (by decide +kernel), hzeroPageX, by decide +kernel,
    -- T6, and the opcodes of its two terms
    by decide +kernel, classify_eq_iff_mem (by decide +kernel), fun op => classify_eq_iff_claims op .imm,
    by decide +kernel, by decide +kernel,
    -- T7
    by decide +kernel, classify_eq_iff_mem (by decide +kernel), fun op => classify_eq_iff_claims op .rel,
    -- T8
    by decide +kernel, classify_eq_iff_mem (by decide +kernel), fun op => classify_eq_iff_claims op .indIdxX,
    -- T9
    by decide +kernel, classify_eq_iff_mem (by decide +kernel), fun op => classify_eq_iff_claims op .indIdxY,
    -- T11, and how many opcodes it matches
    by decide +kernel, classify_eq_iff_mem (by decide +kernel), habsIdxX, by decide +kernel,
    -- T12
    classify_eq_iff_mem (by decide +kernel), fun op => (classify_eq_iff_claims op .implicit).trans beq_iff_eq⟩

/-- Settles O5: `ind` and `absIdxY` by what they claim, the lists by the walk over the bytes. -/
theorem carveOutOpcodesHaveTheirOwnTerms : Obligations.CarveOutOpcodesHaveTheirOwnTerms := by
  unfold Obligations.CarveOutOpcodesHaveTheirOwnTerms
  have htest1 (op : Byte) : test1 op = true ↔ op = 0x6C#8 := beq_iff_eq
  exact ⟨
    -- T1 and `0x6C`
    htest1, fun op => (classify_eq_iff_claims op .ind).trans (htest1 op), by decide,
    -- T5 and `0x20`
    by decide +kernel, classify_eq_iff_mem (by decide +kernel), by decide +kernel, by decide,
    -- T10 and `0x19`
    by decide +kernel, classify_eq_iff_mem (by decide +kernel), fun op => classify_eq_iff_claims op .absIdxY, by decide,
    by decide, by decide +kernel⟩

/-- Settles O6, by counting the matching tests of each of the 256 bytes (30_encoding.md R78). -/
theorem exactlyNineOpcodesMatchTwoTests : Obligations.ExactlyNineOpcodesMatchTwoTests :=
  ⟨by decide +kernel, by decide, by decide, by decide⟩

/-- Settles O7, by counting (30_encoding.md R66). -/
theorem classSizesAreTheTwelveCounts : Obligations.ClassSizesAreTheTwelveCounts :=
  ⟨by decide +kernel, rfl⟩

/-- Settles O8, row by row of the table. -/
theorem operandSizeIsTheTable : Obligations.OperandSizeIsTheTable :=
  ⟨rfl, AddrMode.mem_all⟩

/-- Settles O9: a code is determined by its place in the list of all tags, in which no code stands twice. -/
theorem tagCodesAreThePositions : Obligations.TagCodesAreThePositions := by
  unfold Obligations.TagCodesAreThePositions
  have hnodup : (AddrMode.all.map AddrMode.code).Nodup := by decide
  refine ⟨rfl, fun m m' => List.inj_on_of_nodup_map hnodup m.mem_all m'.mem_all, fun m => ?_⟩
  cases m <;> decide

end Sys2Proof
end

section
/-! # Decoding and encoding of byte sequences

The rules of the family `30_encoding.md` about instructions with their operand bytes. `decode` and `encode` are inverse
to each other (`decode_eq_ok_iff`), so a stream of instructions decodes to itself by induction over it. In the view of a
machine the decoder reads what a listing reads, and fails only where a step does. -/

namespace Sys2Proof

/-! ## One instruction -/

/-- The class of the instruction an opcode byte names is the one the tests give the byte (30_encoding.md R53). -/
theorem classOf_decodeOpcode (op : Byte) : (decodeOpcode op).classOf = classify op := by
  rw [← classify_opcode, opcode_decodeOpcode]

theorem Insn.wellFormed_iff (x : Insn) : x.wellFormed = true ↔ x.operands.length = operandSize x.instr.classOf :=
  beq_iff_eq

/-- `decode` answers exactly where the sequence starts with the bytes of a well-formed instruction (30_encoding.md R50,
R70, R71). -/
theorem decode_eq_ok_iff (bs : List Byte) (x : Insn) (rest : List Byte) :
    decode bs = .ok (x, rest) ↔ x.wellFormed = true ∧ encode x ++ rest = bs := by
  rw [Insn.wellFormed_iff]
  constructor
  · intro h
    cases bs with
    | nil => cases h
    | cons op bs =>
      rw [decode_cons] at h
      split at h
      next hle =>
        cases h
        simpa [encode, opcode_decodeOpcode, classOf_decodeOpcode] using hle
      next => cases h
  · rintro ⟨hwf, rfl⟩
    have hle : operandSize x.instr.classOf ≤ (x.operands ++ rest).length := by simp [hwf]
    rw [encode, List.cons_append, decode_cons, classify_opcode, decodeOpcode_opcode, if_pos hle,
      List.take_left' hwf, List.drop_left' hwf]

theorem decode_encode_append {x : Insn} (hx : x.wellFormed = true) (rest : List Byte) :
    decode (encode x ++ rest) = .ok (x, rest) :=
  (decode_eq_ok_iff ..).mpr ⟨hx, rfl⟩

theorem decode_noOpcode_iff (bs : List Byte) : decode bs = .error .noOpcode ↔ bs = [] := by
  cases bs with
  | nil => simp [decode]
  | cons op rest =>
    rw [decode_cons]
    split <;> simp

theorem decode_missingOperands_iff (op : Byte) (rest : List Byte) :
    decode (op :: rest) = .error .missingOperands ↔ rest.length < operandSize (classify op) := by
  rw [decode_cons]
  split
  next hle => simpa using hle
  next hlt => simpa using hlt

/-! ## Streams -/

@[simp] theorem decodeUpTo_nil (max : Nat) : decodeUpTo max [] = .ok [] := by
  cases max <;> rfl

/-- `decodeUpTo` takes one instruction off and goes on after it. -/
theorem decodeUpTo_encode_append {x : Insn} (hx : x.wellFormed = true) (max : Nat) (rest : List Byte) :
    decodeUpTo (max + 1) (encode x ++ rest) = (decodeUpTo max rest).map (x :: ·) := by
  have hdecode := decode_encode_append hx rest
  rw [encode, List.cons_append] at hdecode ⊢
  simp only [decodeUpTo, hdecode]
  cases decodeUpTo max rest <;> rfl

/-- A stream decodes to itself under every bound that admits it. -/
theorem decodeUpTo_encodeAll {xs : List Insn} (hxs : ∀ x ∈ xs, x.wellFormed = true) {max : Nat}
    (hmax : xs.length ≤ max) : decodeUpTo max (encodeAll xs) = .ok xs := by
  induction xs generalizing max with
  | nil => exact decodeUpTo_nil max
  | cons x xs ih =>
    obtain ⟨hx, hxs⟩ := List.forall_mem_cons.mp hxs
    obtain ⟨max, rfl⟩ : ∃ k, max = k + 1 := Nat.exists_eq_add_one.mpr (Nat.zero_lt_of_lt hmax)
    rw [encodeAll, decodeUpTo_encode_append hx, ih hxs (Nat.le_of_succ_le_succ hmax)]
    rfl

/-! ## The decoder over the view of a machine -/

namespace Machine

/-- `MemRead(addr, n)` takes `n` bytes of the array from `addr` on (20_memory.md R35). -/
theorem Memory.readBytes_eq (m : Memory) (a n : Nat) :
    m.readBytes a n = if a + n ≤ m.len.val then some ((m.toBytes.drop a).take n) else none := by
  unfold readBytes
  split
  next hle =>
    rw [Option.some.injEq]
    apply List.ext_getElem
    · simp only [List.length_map, List.length_range, List.length_take, List.length_drop, length_toBytes]
      omega
    · intro k _ _
      simp [toBytes]
  next => rfl

/-- A listing shows what decoding the bytes from its address on gives (30_encoding.md R76). -/
theorem State.insnAt_eq_decode (s : State) (a : Nat) :
    s.insnAt a = (decode (s.mem.toBytes.drop a)).toOption.map Prod.fst := by
  unfold State.insnAt
  cases hread : s.mem.read a with
  | none =>
    have hnil : s.mem.toBytes.drop a = [] :=
      List.drop_eq_nil_of_le (by simpa using (s.mem.read_eq_none_iff a).mp hread)
    rw [hnil]
    rfl
  | some op =>
    have hlt : a < s.mem.len.val := (s.mem.exists_read_iff a).mp ⟨op, hread⟩
    have hiff : a + 1 + operandSize (classify op) ≤ s.mem.len.val ↔
        operandSize (classify op) ≤ (s.mem.toBytes.drop (a + 1)).length := by
      rw [List.length_drop, Memory.length_toBytes]
      omega
    simp only [Memory.drop_toBytes_of_read hread, decode_cons, Memory.readBytes_eq, hiff]
    by_cases hle : operandSize (classify op) ≤ (s.mem.toBytes.drop (a + 1)).length
    · simp only [if_pos hle]
      rfl
    · simp only [if_neg hle]
      rfl

/-- With `PC_OVERFLOW = wrap` a step moves past every instruction inside the view (40_step.md R91, R96). -/
theorem advance_of_covers {n : Nat} {s : State} (hwrap : s.cfg.pcOverflow = .wrap) (hcov : s.covers n) :
    advance n s = .next (s.movedPast n) := by
  refine advance_of_not_fault fun hfault => ?_
  rcases (advance_fault_iff n s).mp hfault with hout | ⟨_, hcfg⟩
  · exact Nat.not_le_of_lt hcov hout
  · simp [hwrap] at hcfg

end Machine

/-! ## The obligations -/

/-- Settles O11, from right to left of `decode_eq_ok_iff`. -/
theorem decodeReadsBackEveryEncoding : Obligations.DecodeReadsBackEveryEncoding :=
  fun _ rest hx => decode_encode_append hx rest

/-- Settles O12, from left to right of `decode_eq_ok_iff`. -/
theorem decodedInstructionsReencode : Obligations.DecodedInstructionsReencode :=
  fun bs x rest => (decode_eq_ok_iff bs x rest).mp

/-- Settles O13: one lemma for each rejection, and `decode_cons` where there are enough bytes. -/
theorem decodeRefusesOnlyShortSequences : Obligations.DecodeRefusesOnlyShortSequences :=
  ⟨decode_noOpcode_iff, decode_missingOperands_iff,
    fun op rest hle => ⟨_, (decode_cons op rest).trans (if_pos hle), opcode_decodeOpcode op⟩⟩

/-- Settles O14: under a bound that admits both, streams with the same bytes decode to the same list. -/
theorem streamsDecodeUniquely : Obligations.StreamsDecodeUniquely := by
  unfold Obligations.StreamsDecodeUniquely
  refine ⟨fun xs hxs => decodeUpTo_encodeAll hxs (Nat.le_refl _), fun xs ys hxs hys heq => ?_⟩
  have hdecode := decodeUpTo_encodeAll hxs (Nat.le_max_left xs.length ys.length)
  rw [heq, decodeUpTo_encodeAll hys (Nat.le_max_right xs.length ys.length)] at hdecode
  exact (Except.ok.inj hdecode).symm

/-- Settles O45: the listing reads what `decode` gives, less the rest. -/
theorem listedInstructionIsTheDecodedOne : Obligations.ListedInstructionIsTheDecodedOne := by
  unfold Obligations.ListedInstructionIsTheDecodedOne
  intro s a x
  rw [Machine.State.insnAt_eq_decode]
  cases decode (s.mem.toBytes.drop a) <;> simp [Except.toOption, Prod.ext_iff]

/-- Settles O36: with an opcode byte, the outcome turns on whether the view covers its operand bytes. -/
theorem everyOpcodeIsSteppedOverByItsLength : Obligations.EveryOpcodeIsSteppedOverByItsLength := by
  unfold Obligations.EveryOpcodeIsSteppedOverByItsLength
  intro s hwrap
  rcases Machine.step_cases s with ⟨hnone, hstep⟩ | ⟨op, hop, hstep⟩
  · exact .inr ⟨.inl ((Machine.fetch_eq_none_iff s).mp hnone), hstep⟩
  · by_cases hcov : s.covers (operandSize (classify op))
    · exact .inl ⟨op, hop, hcov, hstep.trans (Machine.advance_of_covers hwrap hcov)⟩
    · have hout := (Machine.advance_fault_iff _ s).mpr (.inl (Nat.le_of_not_lt hcov))
      exact .inr ⟨.inr ⟨op, hop, hcov⟩, hstep.trans hout⟩

end Sys2Proof
end

section
/-! # One step, and runs of steps

The rules of the family `40_step.md`. `step_next_iff` says when a step succeeds and with what (R91 to R93, R96), and
`step_fault_iff` that it raises everywhere else; the laws of one step are read off these two. Runs are inductions over
the stream (R95, R98) and over the number of steps left (R92, R93). -/

namespace Sys2Proof.Machine

/-! ## What a step answers -/

/-- `advance` succeeds where the view covers the instruction and there is room for the new program counter. -/
theorem advance_next_iff (n : Nat) (s t : State) :
    advance n s = .next t ↔ s.covers n ∧ s.roomAfter n ∧ t = s.movedPast n := by
  have := s.mem.len.isLt
  rcases advance_cases n s with ⟨hout, h⟩ | ⟨_, htop, hcfg, h⟩ | ⟨hin, hroom, h⟩
  · simp [h, State.covers, Nat.not_lt.mpr hout]
  · simp [h, State.roomAfter, htop, hcfg]
  · have hroom' : s.roomAfter n := hroom.imp (by omega) id
    simp [h, State.covers, hin, hroom', State.setPc, eq_comm]

theorem step_of_read {s : State} {op : Byte} (h : s.mem.read s.regs.pc.toNat = some op) :
    step s = advance (operandSize (classify op)) s :=
  step_of_fetch h

/-- Every successful step, and all that it does (40_step.md R91, R92, R96). -/
theorem step_next_iff (s t : State) :
    step s = .next t ↔ ∃ op, s.mem.read s.regs.pc.toNat = some op ∧ s.covers (operandSize (classify op)) ∧
      s.roomAfter (operandSize (classify op)) ∧ t = s.movedPast (operandSize (classify op)) := by
  cases hread : s.mem.read s.regs.pc.toNat with
  | none => simp [step_of_fetch_none hread]
  | some op => simp only [step_of_read hread, advance_next_iff, Option.some.injEq, exists_eq_left']

theorem exists_step_next_iff (s : State) : (∃ t, step s = .next t) ↔ s.stepSafe := by
  constructor
  · rintro ⟨t, hstep⟩
    obtain ⟨op, hop, hcov, hroom, _⟩ := (step_next_iff s t).mp hstep
    exact ⟨op, hop, hcov, hroom⟩
  · rintro ⟨op, hop, hcov, hroom⟩
    exact ⟨_, (step_next_iff s _).mpr ⟨op, hop, hcov, hroom, rfl⟩⟩

/-- A step has two answers (60_exceptions.md R111, R115). -/
theorem step_next_or_fault (s : State) : (∃ t, step s = .next t) ∨ step s = .fault .outOfBounds := by
  rcases step_cases s with ⟨_, hstep⟩ | ⟨op, _, hstep⟩
  · exact .inr hstep
  · rw [hstep]
    by_cases hfault : advance (operandSize (classify op)) s = .fault .outOfBounds
    · exact .inr hfault
    · exact .inl ⟨_, advance_of_not_fault hfault⟩

theorem step_fault_iff (s : State) : step s = .fault .outOfBounds ↔ ¬ s.stepSafe := by
  rw [← exists_step_next_iff]
  rcases step_next_or_fault s with ⟨t, hstep⟩ | hstep <;> simp [hstep]

theorem serve_step_of_next {s t : State} (h : step s = .next t) : serve .step s = (.ok, t) := by
  simp [serve, h, settleOutcome]

theorem serve_step_of_fault {s : State} {f : Fault} (h : step s = .fault f) : serve .step s = (.failed f, s) := by
  simp [serve, h, settleOutcome]

/-! ## The frame -/

/-- `t` is `s` but for the program counter, the view compared byte by byte (40_step.md R94). -/
def State.SameButPc (s t : State) : Prop :=
  t.regs.a = s.regs.a ∧ t.regs.x = s.regs.x ∧ t.regs.y = s.regs.y ∧ t.regs.sp = s.regs.sp ∧
    t.regs.p = s.regs.p ∧ t.cfg = s.cfg ∧ t.mem.len = s.mem.len ∧ ∀ a, t.mem.read a = s.mem.read a

theorem State.sameButPc_refl (s : State) : s.SameButPc s :=
  ⟨rfl, rfl, rfl, rfl, rfl, rfl, rfl, fun _ => rfl⟩

theorem State.sameButPc_setPc (s : State) (v : Addr) : s.SameButPc (s.setPc v) :=
  s.sameButPc_refl

theorem step_sameButPc {s t : State} (h : step s = .next t) : s.SameButPc t := by
  obtain ⟨n, _, rfl⟩ := step_next h
  exact s.sameButPc_setPc _

/-! ## The program counter -/

/-- Below 65536 the new program counter is the sum itself. -/
theorem toNat_ofNat_of_lt {p : Nat} (h : p < 65536) : (BitVec.ofNat 16 p).toNat = p :=
  (BitVec.toNat_ofNat ..).trans (Nat.mod_eq_of_lt h)

/-- The low 16 bits of a sum are the 16-bit sum (00_scope.md section 5). -/
theorem ofNat_toNat_add (pc : Addr) (n : Nat) : BitVec.ofNat 16 (pc.toNat + n) = pc + BitVec.ofNat 16 n := by
  rw [BitVec.ofNat_add, BitVec.ofNat_toNat, BitVec.setWidth_eq]

/-- A step moves forward, or wraps to zero (40_step.md R92, R96). -/
theorem step_pc {s t : State} (h : step s = .next t) :
    (s.regs.pc.toNat < t.regs.pc.toNat ∧ t.regs.pc.toNat ≤ s.regs.pc.toNat + 3 ∧
      t.regs.pc.toNat ≤ s.mem.len.val) ∨
    (s.mem.len.val = 65536 ∧ s.cfg.pcOverflow = .wrap ∧ 0xFFFD ≤ s.regs.pc.toNat ∧ t.regs.pc = 0x0000) := by
  obtain ⟨op, _, hcov, hroom, rfl⟩ := (step_next_iff s t).mp h
  have hsize := operandSize_le (classify op)
  have hlen := s.mem.len.isLt
  by_cases hlt : s.regs.pc.toNat + operandSize (classify op) + 1 < 65536
  · left
    simp only [toNat_ofNat_of_lt hlt]
    omega
  · have htop : s.regs.pc.toNat + operandSize (classify op) + 1 = 65536 := by omega
    exact .inr ⟨by omega, hroom.resolve_left hlt, by omega, by simp [htop]⟩

/-! ## Runs over a stream -/

/-- The view of `s` holds the bytes from the program counter on. -/
def State.Holds (s : State) (bs : List Byte) : Prop :=
  ∀ (k : Nat) (b : Byte), bs[k]? = some b → s.mem.read (s.regs.pc.toNat + k) = some b

theorem State.Holds.left {s : State} {bs cs : List Byte} (h : s.Holds (bs ++ cs)) : s.Holds bs := fun k b hk =>
  h k b (by rw [List.getElem?_append_left (List.getElem?_eq_some_iff.mp hk).1, hk])

/-- With the program counter moved past the first bytes, the view holds the others. -/
theorem State.Holds.right {s : State} {bs cs : List Byte} (h : s.Holds (bs ++ cs))
    (hlt : s.regs.pc.toNat + bs.length < 65536) :
    (s.setPc (BitVec.ofNat 16 (s.regs.pc.toNat + bs.length))).Holds cs := fun k b hk => by
  rw [State.setPc_pc, State.setPc_mem, toNat_ofNat_of_lt hlt, Nat.add_assoc]
  exact h _ b (by rw [List.getElem?_append_right (Nat.le_add_right ..), Nat.add_sub_cancel_left, hk])

theorem State.Holds.lt_len {s : State} {bs : List Byte} (h : s.Holds bs) {k : Nat} (hk : k < bs.length) :
    s.regs.pc.toNat + k < s.mem.len.val :=
  (s.mem.exists_read_iff _).mp ⟨_, h k _ (List.getElem?_eq_getElem hk)⟩

theorem State.Holds.read_opcode {s : State} {x : Insn} (h : s.Holds (encode x)) :
    s.mem.read s.regs.pc.toNat = some x.instr.opcode :=
  h 0 _ rfl

theorem length_encode {x : Insn} (hx : x.wellFormed = true) :
    (encode x).length = operandSize (classify x.instr.opcode) + 1 := by
  rw [encode, List.length_cons, (Insn.wellFormed_iff x).mp hx, classify_opcode]

/-- Over a whole instruction in the view a step moves past its bytes, where there is room (40_step.md R95). -/
theorem step_over_insn {s : State} {x : Insn} (hx : x.wellFormed = true) (hview : s.Holds (encode x))
    (hroom : s.regs.pc.toNat + (encode x).length < 65536 ∨ s.cfg.pcOverflow = .wrap) :
    step s = .next (s.setPc (BitVec.ofNat 16 (s.regs.pc.toNat + (encode x).length))) := by
  have hlen := length_encode hx
  have hcov := hview.lt_len (k := operandSize (classify x.instr.opcode)) (by omega)
  rw [hlen] at hroom ⊢
  exact (step_next_iff ..).mpr ⟨_, hview.read_opcode, hcov, hroom, rfl⟩

theorem run_succ_of_next {s t : State} (h : step s = .next t) (k : Nat) :
    Host.Core.run core (k + 1) s = Host.Core.run core k t := by
  rw [run_succ, h]

theorem run_succ_of_fault {s : State} {f : Fault} (h : step s = .fault f) (k : Nat) :
    Host.Core.run core (k + 1) s = .fault f := by
  rw [run_succ, h]

/-- A run goes on from where its first part ends. -/
theorem run_add_of_next {k : Nat} {s t : State} (h : Host.Core.run core k s = .next t) (m : Nat) :
    Host.Core.run core (k + m) s = Host.Core.run core m t := by
  induction k generalizing s with
  | zero =>
    cases h
    rw [Nat.zero_add]
  | succ k ih =>
    rw [Nat.succ_add]
    rcases step_next_or_fault s with ⟨u, hu⟩ | hfault
    · rw [run_succ_of_next hu] at h ⊢
      exact ih h
    · rw [run_succ_of_fault hfault] at h
      cases h

/-- A run walks a stream that ends below the top, instruction by instruction (40_step.md R95, R98). -/
theorem run_over_stream {s : State} {xs : List Insn} (hxs : ∀ x ∈ xs, x.wellFormed = true)
    (hview : s.Holds (encodeAll xs)) (hlt : s.regs.pc.toNat + (encodeAll xs).length < 65536) :
    Host.Core.run core xs.length s =
      .next (s.setPc (BitVec.ofNat 16 (s.regs.pc.toNat + (encodeAll xs).length))) := by
  induction xs generalizing s with
  | nil => simp [encodeAll, run_zero, State.setPc]
  | cons x xs ih =>
    obtain ⟨hx, hxs⟩ := List.forall_mem_cons.mp hxs
    rw [encodeAll] at hview hlt ⊢
    rw [List.length_append, ← Nat.add_assoc] at hlt ⊢
    have hmid : s.regs.pc.toNat + (encode x).length < 65536 := by omega
    have hpc := toNat_ofNat_of_lt hmid
    rw [List.length_cons, run_succ_of_next (step_over_insn hx hview.left (.inl hmid)),
      ih hxs (hview.right hmid) (by rwa [State.setPc_pc, hpc]), State.setPc_pc, hpc, State.setPc_setPc]

theorem encodeAll_append (xs ys : List Insn) : encodeAll (xs ++ ys) = encodeAll xs ++ encodeAll ys := by
  induction xs with
  | nil => rfl
  | cons x xs ih => rw [List.cons_append, encodeAll, encodeAll, ih, List.append_assoc]

/-- A run over a stream that ends at the top comes down to the step over its last instruction. -/
theorem run_to_top {s : State} {xs : List Insn} (hxs : ∀ x ∈ xs, x.wellFormed = true)
    (hview : s.Holds (encodeAll xs)) (htop : s.regs.pc.toNat + (encodeAll xs).length = 65536) :
    ∃ (v : Addr) (x : Insn), x.wellFormed = true ∧ (s.setPc v).Holds (encode x) ∧
      v.toNat + (encode x).length = 65536 ∧
      Host.Core.run core xs.length s = Host.Core.run core 1 (s.setPc v) := by
  rcases List.eq_nil_or_concat' xs with rfl | ⟨init, last, rfl⟩
  · have := s.regs.pc.isLt
    simp only [encodeAll, List.length_nil] at htop
    omega
  · have hsplit : encodeAll (init ++ [last]) = encodeAll init ++ encode last := by
      rw [encodeAll_append, encodeAll, encodeAll, List.append_nil]
    rw [hsplit] at hview htop
    rw [List.length_append] at htop
    obtain ⟨hinit, hlast⟩ := List.forall_mem_append.mp hxs
    rw [List.forall_mem_singleton] at hlast
    have hlt : s.regs.pc.toNat + (encodeAll init).length < 65536 := by
      have := length_encode hlast
      omega
    refine ⟨_, last, hlast, hview.right hlt, ?_, ?_⟩
    · rw [toNat_ofNat_of_lt hlt]
      omega
    · rw [List.length_append]
      exact run_add_of_next (run_over_stream hinit hview.left hlt) 1

/-! ## Runs over a short view -/

/-- As many steps as there are addresses left in the view, and one more, run out of it: each step that succeeds leaves
fewer (40_step.md R92, R93). -/
theorem run_out_of_view {s : State} (hshort : s.mem.len.val < 65536) {k : Nat}
    (hk : s.mem.len.val ≤ s.regs.pc.toNat + k) : Host.Core.run core (k + 1) s = .fault .outOfBounds := by
  induction k generalizing s with
  | zero => exact run_succ_of_fault (step_of_fetch_none ((fetch_eq_none_iff s).mpr hk)) 0
  | succ k ih =>
    rcases step_next_or_fault s with ⟨t, ht⟩ | hfault
    · obtain ⟨hforward, _, _⟩ : s.regs.pc.toNat < t.regs.pc.toNat ∧ _ ∧ _ :=
        (step_pc ht).resolve_right fun hwrap => by omega
      obtain ⟨_, _, rfl⟩ := step_next ht
      rw [run_succ_of_next ht]
      exact ih hshort (by rw [State.setPc_mem]; omega)
    · exact run_succ_of_fault hfault _

/-! ## The obligations -/

/-- Settles O29: without an opcode byte there is nothing to do, and with one what is left is `advance`. -/
theorem stepIsTheStepRule : Obligations.StepIsTheStepRule := by
  unfold Obligations.StepIsTheStepRule
  intro s
  cases hread : s.mem.read s.regs.pc.toNat with
  | none => exact step_of_fetch_none hread
  | some op => exact step_of_read hread

/-- Settles O30: the view covers the instruction, and the sum fits 16 bits. -/
theorem advancementLaw : Obligations.AdvancementLaw := by
  unfold Obligations.AdvancementLaw
  intro s op hop hlen hlt
  have hstep := (step_next_iff s _).mpr ⟨op, hop, hlen, .inl hlt, rfl⟩
  exact ⟨_, hstep, toNat_ofNat_of_lt hlt, rfl, rfl, rfl, rfl, rfl⟩

/-- Settles O31: no opcode byte, or an operand byte outside the view. -/
theorem boundsLaw : Obligations.BoundsLaw := by
  unfold Obligations.BoundsLaw
  intro s hout
  have hfault : step s = .fault .outOfBounds := by
    rcases hout with hpc | ⟨op, hop, hend⟩
    · exact step_of_fetch_none ((fetch_eq_none_iff s).mpr hpc)
    · rw [step_of_read hop]
      exact (advance_fault_iff _ s).mpr (.inl hend)
  exact ⟨hfault, serve_step_of_fault hfault⟩

/-- Settles O32: a view of 65536 bytes covers what ends at its top, and none covers more. -/
theorem topOfAddressSpace : Obligations.TopOfAddressSpace := by
  unfold Obligations.TopOfAddressSpace
  intro s op hop
  refine ⟨fun hsum hlen hwrap => ?_, fun hsum hcfg => ?_, fun hsum => ?_⟩
  · have hstep := (step_next_iff s _).mpr ⟨op, hop, show _ < _ by omega, .inr hwrap, rfl⟩
    rw [hstep, State.movedPast, hsum]
    rfl
  · rw [step_of_read hop]
    exact (advance_fault_iff _ s).mpr (.inr ⟨hsum, hcfg⟩)
  · have := s.mem.len.isLt
    rw [step_of_read hop]
    exact (advance_fault_iff _ s).mpr (.inl (by omega))

/-- Settles O33: a step that answers keeps the frame, and the transaction keeps it on a condition too. -/
theorem stepMutatesOnlyThePc : Obligations.StepMutatesOnlyThePc :=
  ⟨fun _ _ => step_sameButPc,
    fun s => settleOutcome_keeps (P := s.SameButPc) s.sameButPc_refl fun _ => step_sameButPc⟩

/-- Settles O34: every meaning is `advance`, which writes the program counter only. -/
theorem noInstructionHasAnEffectButItsLength : Obligations.NoInstructionHasAnEffectButItsLength := by
  unfold Obligations.NoInstructionHasAnEffectButItsLength
  intro i s t hexec
  rw [exec_eq_stepOver] at hexec
  obtain ⟨_, rfl⟩ := advance_next hexec
  refine ⟨?_, s.sameButPc_setPc _⟩
  rw [State.setPc_pc, Nat.add_assoc, ofNat_toNat_add, lengthOf, Nat.add_comm 1]

/-- Settles O37. -/
theorem safeStepsAreExactlyTheNextOnes : Obligations.SafeStepsAreExactlyTheNextOnes := by
  unfold Obligations.SafeStepsAreExactlyTheNextOnes
  intro s
  refine ⟨exists_step_next_iff s, fun r => ?_⟩
  rcases step_next_or_fault s with ⟨t, hstep⟩ | hstep <;> simp [hstep]

/-- Settles O40: whether a state is safe, and how far its step moves, is said of the program counter, the view and
`PC_OVERFLOW` only. -/
theorem stepIsAFunctionOfPcAndView : Obligations.StepIsAFunctionOfPcAndView := by
  unfold Obligations.StepIsAFunctionOfPcAndView
  intro s u hpc hmem hcfg
  by_cases hsafe : s.stepSafe
  · obtain ⟨op, hop, hcov, hroom⟩ := hsafe
    have hs := (step_next_iff s _).mpr ⟨op, hop, hcov, hroom, rfl⟩
    simp only [State.covers, State.roomAfter, hpc, hmem, hcfg] at hop hcov hroom
    have hu := (step_next_iff u _).mpr ⟨op, hop, hcov, hroom, rfl⟩
    exact .inl ⟨_, _, hs, hu, by rw [State.movedPast, State.movedPast, hpc]⟩
  · have hunsafe : ¬ u.stepSafe := by
      simpa only [State.stepSafe, State.covers, State.roomAfter, hpc, hmem, hcfg] using hsafe
    exact .inr ⟨(step_fault_iff s).mpr hsafe, (step_fault_iff u).mpr hunsafe⟩

/-- Settles O49, by induction over the stream. -/
theorem runsWalkTheStreamLinearly : Obligations.RunsWalkTheStreamLinearly :=
  fun _ _ hxs hview hlt => run_over_stream hxs hview hlt

/-- Settles O50, by induction over the addresses left in the view. -/
theorem shortViewEndsEveryRun : Obligations.ShortViewEndsEveryRun :=
  fun _ hshort => run_out_of_view hshort (Nat.le_add_left ..)

/-- Settles O51. -/
theorem programCounterMovesForwardOrWraps : Obligations.ProgramCounterMovesForwardOrWraps :=
  fun _ _ => step_pc

/-- Settles O52, by the two answers of a step. -/
theorem everyStepRequestHasOneAnswer : Obligations.EveryStepRequestHasOneAnswer := by
  unfold Obligations.EveryStepRequestHasOneAnswer
  intro s
  rcases step_next_or_fault s with ⟨t, hstep⟩ | hstep
  · exact .inl ⟨t, serve_step_of_next hstep, hstep⟩
  · exact .inr ⟨serve_step_of_fault hstep, hstep⟩

/-- Settles O55: the stream is walked to its last instruction, and the step over that one ends the run. -/
theorem runsThatEndAtTheTop : Obligations.RunsThatEndAtTheTop := by
  unfold Obligations.RunsThatEndAtTheTop
  intro s xs hxs hview htop
  obtain ⟨v, x, hx, hlast, hend, hrun⟩ := run_to_top hxs hview htop
  refine ⟨fun hwrap => ?_, fun hfault => ?_⟩
  · have hstep := step_over_insn hx hlast (.inr hwrap)
    rw [hrun, run_succ_of_next hstep, run_zero, State.setPc_pc, hend]
    rfl
  · rw [length_encode hx] at hend
    have hstep : step (s.setPc v) = .fault .outOfBounds := by
      rw [step_of_read hlast.read_opcode]
      exact (advance_fault_iff ..).mpr (.inr ⟨hend, hfault⟩)
    rw [hrun, run_succ_of_fault hstep]

/-- Settles O15: the opcode byte read is the first of the bytes that are decoded. -/
theorem stepRunsTheDecodedInstruction : Obligations.StepRunsTheDecodedInstruction := by
  unfold Obligations.StepRunsTheDecodedInstruction
  have hexec (s : State) (i : Instr) (hread : s.mem.read s.regs.pc.toNat = some i.opcode) : step s = exec i s := by
    rw [exec_eq_stepOver]
    exact step_of_fetch hread
  refine ⟨hexec, fun s x rest hdecode => hexec s x.instr ?_⟩
  obtain ⟨_, hbytes⟩ := (decode_eq_ok_iff ..).mp hdecode
  calc s.mem.read s.regs.pc.toNat = (s.mem.toBytes.drop s.regs.pc.toNat)[0]? := by simp
    _ = (encode x ++ rest)[0]? := by rw [hbytes]
    _ = some x.instr.opcode := rfl

end Sys2Proof.Machine
end

section
/-! # The instructions of a class step over their operands

Why the family files, from `41_zero_page.md` on, give their instructions the meaning they do: every instruction is an
`advance` over the operand bytes of its class, so a family's statement comes down to the class of each instruction it
lists (`stepsOverOperands_of_classOf`). -/

namespace Sys2Proof.Machine

/-- Every instruction steps over the operand bytes of its class, and raises where it cannot (40_step.md R93, R95,
R96). -/
theorem stepsOverOperands (i : Instr) : StepsOverOperands i (operandSize i.classOf) := by
  intro s
  rw [exec_eq_advance]
  refine ⟨fun hcov hroom => ?_, fun hout => ?_, fun htop hcfg => ?_⟩
  · exact (advance_next_iff ..).mpr ⟨hcov, hroom, rfl⟩
  · exact (advance_fault_iff ..).mpr (.inl hout)
  · exact (advance_fault_iff ..).mpr (.inr ⟨htop, hcfg⟩)

/-- What a family file says of the instructions it lists follows from the class of each. -/
theorem stepsOverOperands_of_classOf {is : List Instr} {m : AddrMode} (h : ∀ i ∈ is, i.classOf = m) :
    ∀ i ∈ is, classify i.opcode = m ∧ StepsOverOperands i (operandSize m) := by
  intro i hi
  obtain rfl := h i hi
  exact ⟨classify_opcode i, stepsOverOperands i⟩

/-! ## The obligation -/

/-- Settles O17: each instruction listed is of class `ZeroPage`, which has one operand byte. -/
theorem zeroPageInstructionsStepOverOneOperand : Obligations.ZeroPageInstructionsStepOverOneOperand :=
  stepsOverOperands_of_classOf (m := .zeroPage) (by decide)

end Sys2Proof.Machine
end

section
/-! # The indexed zero page families step over one operand

`42_zero_page_indexed.md` holds two classes, `ZeroPageX` and `ZeroPageY`, which differ in the instructions listed and
not in what these do: both classes have one operand byte, and no index register enters a meaning. The decided fact is
the class of each instruction listed. -/

namespace Sys2Proof.Machine

/-- Settles O18: each instruction listed is of class `ZeroPageX`, which has one operand byte. -/
theorem zeroPageXInstructionsStepOverOneOperand : Obligations.ZeroPageXInstructionsStepOverOneOperand :=
  stepsOverOperands_of_classOf (m := .zeroPageX) (by decide)

/-- Settles O19: each instruction listed is of class `ZeroPageY`, which has one operand byte. -/
theorem zeroPageYInstructionsStepOverOneOperand : Obligations.ZeroPageYInstructionsStepOverOneOperand :=
  stepsOverOperands_of_classOf (m := .zeroPageY) (by decide)

end Sys2Proof.Machine
end

section
/-! # The absolute family steps over two operands

`43_absolute.md` gives its instructions the two bytes of an address. No address is formed by a step, so only their
number enters a meaning, and it is the operand size of the one class of the family. The decided fact is the class of
each instruction listed. -/

namespace Sys2Proof.Machine

/-- Settles O20: each instruction listed is of class `Abs`, which has two operand bytes. -/
theorem absoluteInstructionsStepOverTwoOperands : Obligations.AbsoluteInstructionsStepOverTwoOperands :=
  stepsOverOperands_of_classOf (m := .abs) (by decide)

end Sys2Proof.Machine
end

section
/-! # The indexed absolute families step over two operands

`44_absolute_indexed.md` gives its two classes, `AbsIdxX` and `AbsIdxY`, the two bytes of an address. An index register
would be added to that address, and no address is formed, so both classes have the meaning of class `Abs` and differ
from it in the instructions listed alone. The decided fact is the class of each instruction listed. -/

namespace Sys2Proof.Machine

/-- Settles O21: each instruction listed is of class `AbsIdxX`, which has two operand bytes. -/
theorem absoluteIndexedXInstructionsStepOverTwoOperands :
    Obligations.AbsoluteIndexedXInstructionsStepOverTwoOperands :=
  stepsOverOperands_of_classOf (m := .absIdxX) (by decide)

/-- Settles O22: each instruction listed is of class `AbsIdxY`, which has two operand bytes. -/
theorem absoluteIndexedYInstructionsStepOverTwoOperands :
    Obligations.AbsoluteIndexedYInstructionsStepOverTwoOperands :=
  stepsOverOperands_of_classOf (m := .absIdxY) (by decide)

end Sys2Proof.Machine
end

section
/-! # The indirect families step over their operands

`45_indirect.md` holds three classes. `IndIdxX` and `IndIdxY` name a pointer in the zero page by one byte, `Ind` names
one anywhere by two. No pointer is read by a step, so the classes differ in the operand size, and the two indexed ones
only in the instructions listed. The decided fact is the class of each instruction listed. -/

namespace Sys2Proof.Machine

/-- Settles O23: each instruction listed is of class `IndIdxX`, which has one operand byte. -/
theorem indexedIndirectXInstructionsStepOverOneOperand :
    Obligations.IndexedIndirectXInstructionsStepOverOneOperand :=
  stepsOverOperands_of_classOf (m := .indIdxX) (by decide)

/-- Settles O24: each instruction listed is of class `IndIdxY`, which has one operand byte. -/
theorem indirectIndexedYInstructionsStepOverOneOperand :
    Obligations.IndirectIndexedYInstructionsStepOverOneOperand :=
  stepsOverOperands_of_classOf (m := .indIdxY) (by decide)

/-- Settles O25: `OP_6C`, alone in its list, is of class `Ind`, which has two operand bytes. -/
theorem indirectInstructionsStepOverTwoOperands : Obligations.IndirectInstructionsStepOverTwoOperands :=
  stepsOverOperands_of_classOf (m := .ind) (by decide)

end Sys2Proof.Machine
end

section
/-! # The immediate family steps over one operand

`46_immediate.md` gives its instructions one byte that is the operand itself, not an address. No operand is read by a
step, so the byte is only counted, and the meaning is that of a class with a one byte address. The decided fact is the
class of each instruction listed. -/

namespace Sys2Proof.Machine

/-- Settles O26: each instruction listed is of class `Imm`, which has one operand byte. -/
theorem immediateInstructionsStepOverOneOperand : Obligations.ImmediateInstructionsStepOverOneOperand :=
  stepsOverOperands_of_classOf (m := .imm) (by decide)

end Sys2Proof.Machine
end

section
/-! # The relative family steps over one operand

`47_relative.md` gives its instructions one byte that would be a displacement of the program counter. The byte is not
read and no flag of `P` is tested, so none of them branches: each moves the program counter past its own two bytes, as
an instruction of class `Imm` does. The decided fact is the class of each instruction listed. -/

namespace Sys2Proof.Machine

/-- Settles O27: each instruction listed is of class `Rel`, which has one operand byte. -/
theorem relativeInstructionsStepOverOneOperand : Obligations.RelativeInstructionsStepOverOneOperand :=
  stepsOverOperands_of_classOf (m := .rel) (by decide)

end Sys2Proof.Machine
end

section
/-! # The implicit family steps over no operand

`48_implicit.md` gives its instructions no operand byte, those among them that the conventional matrix gives two
(log entry 12). So they are the ones whose bytes are inside the view wherever the opcode byte is. The decided fact is
the class of each instruction listed. -/

namespace Sys2Proof.Machine

/-- Settles O28: each instruction listed is of class `Implicit`, which has no operand byte. -/
theorem implicitInstructionsStepOverNoOperand : Obligations.ImplicitInstructionsStepOverNoOperand :=
  stepsOverOperands_of_classOf (m := .implicit) (by decide)

end Sys2Proof.Machine
end

section
/-! # The conditions an operation ends in

The rules of `60_exceptions.md`. Each of the two replies that report a condition is said once, with every request that
is answered so: `serve_failed_iff` for `OutOfBounds` (R111) and `serve_refused_iff` for the refusals, `NotImplemented`
among them (R115). -/

namespace Sys2Proof.Machine

/-! ## The operations -/

/-- A view is taken within the bound of 20_memory.md R30, and above it refused (log entry 17). -/
theorem supplyView_cases (bytes : List Byte) (s : State) :
    (bytes.length ≤ 65536 ∧ ∃ t, supplyView bytes s = .next t) ∨
      (65536 < bytes.length ∧ supplyView bytes s = .refused .viewTooLong) := by
  rcases Nat.lt_or_ge 65536 bytes.length with hlong | hle
  · exact .inr ⟨hlong, by rw [supplyView, Memory.ofBytes_eq_none hlong]⟩
  · obtain ⟨m, hm, _⟩ := Memory.exists_ofBytes hle
    exact .inl ⟨hle, { s with mem := m }, by rw [supplyView, hm]⟩

/-- No instruction is refused (30_encoding.md R72, 60_exceptions.md R115). -/
theorem exec_ne_refused (i : Instr) (s : State) (why : Refusal) : exec i s ≠ .refused why := by
  rw [exec_eq_advance]
  rcases advance_cases (operandSize i.classOf) s with ⟨_, h⟩ | ⟨_, _, _, h⟩ | ⟨_, _, h⟩ <;> simp [h]

/-- With `PC_OVERFLOW = wrap` a step raises for a byte outside the view, opcode or operand, and for nothing else
(60_exceptions.md R111). -/
theorem step_fault_iff_of_wrap {s : State} (hwrap : s.cfg.pcOverflow = .wrap) :
    step s = .fault .outOfBounds ↔
      s.mem.len.val ≤ s.regs.pc.toNat ∨
        ∃ op, s.mem.read s.regs.pc.toNat = some op ∧
          s.mem.len.val ≤ s.regs.pc.toNat + operandSize (classify op) := by
  cases hread : s.mem.read s.regs.pc.toNat with
  | none =>
    have hout : s.mem.len.val ≤ s.regs.pc.toNat := (Memory.read_eq_none_iff ..).mp hread
    simp [step_of_fetch_none hread, hout]
  | some op =>
    have hin : s.regs.pc.toNat < s.mem.len.val := (s.mem.exists_read_iff _).mp ⟨op, hread⟩
    simp [step_of_read hread, advance_fault_iff, hwrap, Nat.not_le.mpr hin]

/-! ## The replies -/

@[simp] theorem settleOutcome_failed_iff (s : State) (o : Host.Outcome State Fault Refusal) (f : Fault) :
    (settleOutcome s o).1 = .failed f ↔ o = .fault f := by
  cases o <;> simp [settleOutcome]

@[simp] theorem settleOutcome_refused_iff (s : State) (o : Host.Outcome State Fault Refusal) (why : Refusal) :
    (settleOutcome s o).1 = .refused why ↔ o = .refused why := by
  cases o <;> simp [settleOutcome]

/-- Only a step request is answered by a condition (60_exceptions.md R111). -/
theorem serve_failed_iff (r : Request) (s : State) (f : Fault) :
    (serve r s).1 = .failed f ↔ r = .step ∧ step s = .fault f := by
  cases r with
  | classify op => simp [serve]
  | operandSize m => simp [serve]
  | supplyView bytes => rcases supplyView_cases bytes s with ⟨_, t, h⟩ | ⟨_, h⟩ <;> simp [serve, h]
  | step => simp [serve]
  | reset => simp [serve]
  | run => simp [serve, runRequest]

/-- Only a run request and a view that is too long are refused, each for its own reason (60_exceptions.md R115, log
entry 17). -/
theorem serve_refused_iff (r : Request) (s : State) (why : Refusal) :
    (serve r s).1 = .refused why ↔
      (r = .run ∧ why = .notImplemented) ∨
        (why = .viewTooLong ∧ ∃ bytes, r = .supplyView bytes ∧ 65536 < bytes.length) := by
  cases r with
  | classify op => simp [serve]
  | operandSize m => simp [serve]
  | supplyView bytes =>
    rcases supplyView_cases bytes s with ⟨hle, t, h⟩ | ⟨hlong, h⟩
    · simp [serve, h, hle]
    · simp [serve, h, hlong, eq_comm]
  | step => rcases step_next_or_fault s with ⟨t, h⟩ | h <;> simp [serve, h]
  | reset => simp [serve]
  | run => simp [serve, runRequest, eq_comm]

/-! ## The obligations -/

/-- Settles O35: the two situations of a step, and no other request answered so. -/
theorem outOfBoundsInExactlyTwoSituations : Obligations.OutOfBoundsInExactlyTwoSituations := by
  unfold Obligations.OutOfBoundsInExactlyTwoSituations
  refine ⟨fun s hwrap => ?_, fun r s hr hfailed => hr ((serve_failed_iff r s _).mp hfailed).1⟩
  rw [step_fault_iff_of_wrap hwrap]
  exact or_congr_right' fun hin => iff_and_self.mpr fun _ => Nat.lt_of_not_le hin

/-- Settles O38: the transaction of a failed step gives its state back, so a retry is a step from that state. -/
theorem failedStepLeavesNoTraceAndMayBeRetried : Obligations.FailedStepLeavesNoTraceAndMayBeRetried := by
  unfold Obligations.FailedStepLeavesNoTraceAndMayBeRetried
  intro s hfault
  have hserve := serve_step_of_fault hfault
  rw [hserve]
  refine ⟨rfl, hserve, fun v op hread hcov hwrap => ?_⟩
  have hread' : ({ s with mem := v } : State).mem.read s.regs.pc.toNat = some op := hread
  exact (step_of_read hread').trans (advance_of_covers hwrap hcov)

/-- Settles O39: `NotImplemented` is the answer to a run request, and the reason of no other refusal. -/
theorem runSurfaceAnswersNotImplemented : Obligations.RunSurfaceAnswersNotImplemented := by
  unfold Obligations.RunSurfaceAnswersNotImplemented
  refine ⟨fun _ => rfl, fun r s hr hrefused => ?_, fun i s => exec_ne_refused i s _⟩
  rcases (serve_refused_iff r s _).mp hrefused with ⟨hrun, _⟩ | ⟨hwhy, _⟩
  · exact hr hrun
  · cases hwhy

end Sys2Proof.Machine
end

section
/-! # Table words: the opcode byte they hold, and a view they are placed in

How a program comes to run (`70_reset_and_hazards.md` R132, R133, log entry 10). A word of `opcode_table.json` has eight
bits, so its bytes are one opcode byte and two zeros (`tableBytes_eight`): enough operand bytes for every class. So it
always decodes, and where its three bytes fit the step from it completes. -/

namespace Sys2Proof

theorem tableBytes_eight (w : Nat) : tableBytes 8 w = [BitVec.ofNat 8 w, 0, 0] := by
  have hlow : w % 256 / 256 = 0 := by omega
  have hhigh : w % 256 / 65536 = 0 := by omega
  have hop : BitVec.ofNat 8 (w % 256) = BitVec.ofNat 8 w := BitVec.eq_of_toNat_eq (by simp)
  simp [tableBytes, hlow, hhigh, hop]

/-- A table word decodes to the instruction of its low byte. -/
theorem decodeTableWord_eight (w : Nat) : decodeTableWord 8 w = some (decodeOpcode (BitVec.ofNat 8 w)) := by
  have hsize : operandSize (classify (BitVec.ofNat 8 w)) ≤ [(0 : Byte), 0].length := operandSize_le _
  rw [decodeTableWord, tableBytes_eight, decode_cons, if_pos hsize]

namespace Machine

/-! ## Reads of placed bytes -/

namespace Memory

/-- Bytes placed from an address on leave those below it alone. -/
theorem read_placeBytes_below {m : Memory} (h : m.wf = true) {a x : Nat} (hx : x < a) (bs : List Byte) :
    (m.placeBytes a bs).read x = m.read x := by
  induction bs generalizing m a with
  | nil => rfl
  | cons b bs ih =>
    have hne : ¬ (x = a ∧ a < m.len.val) := by omega
    rw [placeBytes, ih (wf_place a b h) (Nat.lt_succ_of_lt hx), read_place h, if_neg hne]

/-- Of bytes placed inside the view, the first is read at the address itself. -/
theorem read_placeBytes_head {m : Memory} (h : m.wf = true) {a : Nat} (ha : a < m.len.val) (b : Byte)
    (bs : List Byte) : (m.placeBytes a (b :: bs)).read a = some b := by
  rw [placeBytes, read_placeBytes_below (wf_place a b h) (Nat.lt_succ_self a), read_place h, if_pos ⟨rfl, ha⟩]

end Memory

/-! ## The state with a table word placed -/

theorem State.wf_withFetchWord {s : State} (h : s.mem.wf = true) (nbits w : Nat) :
    (s.withFetchWord nbits w).mem.wf = true :=
  Memory.wf_placeBytes _ _ (Memory.wf_cover _ h)

/-- The view reaches past three bytes from the program counter on, as far as the address space goes. -/
theorem State.withFetchWord_len (s : State) (nbits w : Nat) :
    (s.withFetchWord nbits w).mem.len.val = max s.mem.len.val (min (s.regs.pc.toNat + 3) 65536) := by
  rw [withFetchWord, Memory.placeBytes_len, Memory.cover_len]

theorem State.read_withFetchWord {s : State} (h : s.mem.wf = true) (w : Nat) :
    (s.withFetchWord 8 w).mem.read s.regs.pc.toNat = some (BitVec.ofNat 8 w) := by
  have hpc : s.regs.pc.toNat < (s.mem.cover (s.regs.pc.toNat + 3)).len.val := by
    have := s.regs.pc.isLt
    rw [Memory.cover_len]
    omega
  rw [withFetchWord, tableBytes_eight]
  exact Memory.read_placeBytes_head (Memory.wf_cover _ h) hpc _ _

/-- The three bytes cover every operand size. -/
theorem State.stepSafe_withFetchWord {s : State} (h : s.mem.wf = true) (hpc : s.regs.pc.toNat + 3 < 65536) (w : Nat) :
    (s.withFetchWord 8 w).stepSafe := by
  have hsize := operandSize_le (classify (BitVec.ofNat 8 w))
  refine ⟨_, State.read_withFetchWord h w, ?_, .inl ?_⟩
  · rw [State.covers, State.withFetchWord_len, State.withFetchWord_regs]
    omega
  · rw [State.withFetchWord_regs]
    omega

/-- A step runs the instruction of the byte it fetches (40_step.md R91). -/
theorem step_eq_exec {s : State} {op : Byte} (h : fetch s = some op) : step s = exec (decodeOpcode op) s := by
  rw [step_of_fetch h, exec_eq_stepOver, opcode_decodeOpcode]

end Machine

/-! ## The obligations -/

/-- Settles O10: what is left of a word is its opcode byte, which names one instruction. -/
theorem writtenOutWordsDecode : Obligations.WrittenOutWordsDecode := by
  unfold Obligations.WrittenOutWordsDecode
  simp only [List.map_cons, List.map_nil, decodeTableWord_eight]
  rfl

/-- Settles O54: the opcode byte is read where it was placed, and its operand bytes are inside the view. -/
theorem placedWordIsTheNextInstructionRun : Obligations.PlacedWordIsTheNextInstructionRun := by
  unfold Obligations.PlacedWordIsTheNextInstructionRun
  intro s w hwf hpc
  have hread := Machine.State.read_withFetchWord hwf w
  have hsafe := Machine.State.stepSafe_withFetchWord hwf hpc w
  exact ⟨rfl, rfl, Machine.State.wf_withFetchWord hwf 8 w, hread, Machine.step_eq_exec hread,
    (Machine.exists_step_next_iff _).mpr hsafe⟩

end Sys2Proof
end
